-- ==== Sys2Proof/Word.lean ====
section
/-! DEFINITION. The words FMCORE moves: their widths (00_scope.md R7, 10_state.md R20). -/

namespace Sys2Proof

/-- A command word (30_encoding.md R70). -/
abbrev CmdWord := BitVec 32

/-- A register address (10_state.md R32). -/
abbrev RegAddr := BitVec 5

/-- The data of one register, and the immediate field of a command (10_state.md R32, 30_encoding.md R71). -/
abbrev Half := BitVec 16

/-- A phase pattern, signed Q1.31, or a phase increment pattern (10_state.md R21, 40_phase_accumulator.md R100). -/
abbrev Phase := BitVec 32

/-- An output sample pattern, signed Q25.23, or a function-unit result (10_state.md R27, R28). -/
abbrev Wide := BitVec 48

end Sys2Proof
end

