-- ==== Sys2Proof/Config.lean ====
section
/-! DEFINITION. What an implementation of FMCORE fixes and this spec leaves open. The sample rate is carried by the
state (log 1), so that one model covers every rate. The constants below have no value a proof could use. -/

namespace Sys2Proof.Config

/-- The default of `FS_HZ`: "Its default is 48000" (00_scope.md R5). -/
def defaultFsHz : Nat := 48000

/-- `LAT_CMD_MAX`, "an open parameter each implementation states" (70_reset_and_hazards.md R420, 00_scope.md R8). Log 6. -/
opaque latCmdMax : Nat

/-- A free value for the latency of a command: it may differ between commands and "does not depend on its operand
values or on the state" (70_reset_and_hazards.md R420, R422), so it depends on the fields `op` and `rsv` alone. Log 6. -/
opaque latencyFree (op : BitVec 4) (rsv : BitVec 7) : Nat

/-- What `rsp_data` carries in a cycle without a response: "meaningful only while `rsp_valid = 1` (any value
otherwise)" (92_eei_decisions.md D34, 93_implementation_defined.md I16). A fresh value each cycle. Log 9. -/
opaque idleRspData (cycle : Nat) : Half

end Sys2Proof.Config
end

