-- ==== Sys2Proof/Syntax.lean ====
section
/-! DEFINITION. The ten commands of FMCORE, one constructor for each row of the opcode table (30_encoding.md R74, R78).
A field that a command does not use is no part of it (R72). -/

namespace Sys2Proof

/-- A command, with the operands 30_encoding.md R78 gives it. Every operand is a field of the command word, so it
is as wide as its field and there is no command that does not fit the encoding. -/
inductive Instr where
  /-- `NOP` (44_host_commands.md R215). -/
  | nop
  /-- `WR addr, imm16` (44_host_commands.md R201). -/
  | wr (addr : RegAddr) (imm : Half)
  /-- `RD addr` (44_host_commands.md R204). -/
  | rd (addr : RegAddr)
  /-- `COMMIT` (44_host_commands.md R208). -/
  | commit
  /-- `STEP` (43_engine_step.md R180). -/
  | step
  /-- `SINE imm16` (44_host_commands.md R212). -/
  | sine (imm : Half)
  /-- `CLIP imm16` (44_host_commands.md R213). -/
  | clip (imm : Half)
  /-- `MTOF imm16` (44_host_commands.md R214). -/
  | mtof (imm : Half)
  /-- `DBTOA imm16` (44_host_commands.md R217). -/
  | dbtoa (imm : Half)
  /-- `CLRERR` (44_host_commands.md R216). -/
  | clrerr
deriving DecidableEq, Repr

end Sys2Proof
end

