-- ==== Sys2Proof/WellFormed.lean ====
section
/-! DEFINITION. What a host may write: the assembler's lines with operands as plain numbers (30_encoding.md R79, R80),
and the checks by which the assembler rejects an operand that does not fit its field. A command (`Instr`) carries its
operands at the width of their fields, so the checks stand here, on what is written before it is a command. -/

namespace Sys2Proof

/-- The names of the mapped registers (10_state.md R32). -/
inductive RegName where
  | gainDb | note | modNote | depthDb | drive
  | aGainDb | aNote | aModNote | aDepthDb | aDrive
  | oph | status | id
  | out0 | out1 | out2 | res0 | res1 | res2
deriving DecidableEq, Repr

/-- A register operand: "a name of `10_state.md` rule R32 or a number 0 to 31" (30_encoding.md R79). -/
inductive RegOperand where
  | name (r : RegName)
  | number (n : Int)
deriving DecidableEq, Repr

/-- The 48-bit registers that `RD48` reads (30_encoding.md R80). -/
inductive WideName where
  | out | res
deriving DecidableEq, Repr

/-- One line of assembler: a command or a pseudo-command, its operands as numbers (30_encoding.md R79, R80), or a raw
word as the disassembler prints an illegal one (R79). -/
inductive SourceLine where
  | nop | commit | step | clrerr
  | wr (reg : RegOperand) (imm : Int)
  | rd (reg : RegOperand)
  | sine (imm : Int)
  | clip (imm : Int)
  | mtof (imm : Int)
  | dbtoa (imm : Int)
  | sinex (x : Int)
  | clipx (x : Int)
  | rd48 (r : WideName)
  | setp (reg : RegOperand) (imm : Int)
  | setall (g n m d r : Int)
  | render (n : Int)
  | rawWord (w : Int)
deriving DecidableEq, Repr

/-- "an address above 31" does not fit (30_encoding.md R79). -/
def RegOperand.fits : RegOperand → Bool
  | .name _ => true
  | .number n => decide (0 ≤ n ∧ n ≤ 31)

/-- "an immediate above 0xFFFF or below -0x8000" does not fit (30_encoding.md R79). -/
def immFits (v : Int) : Bool := decide (-0x8000 ≤ v ∧ v ≤ 0xFFFF)

/-- The same bounds for the 32-bit operand of `SINEX` and `CLIPX`. DESIGN CHOICE (log 15): R80 gives none. -/
def longFits (v : Int) : Bool := decide (-0x80000000 ≤ v ∧ v ≤ 0xFFFFFFFF)

/-- A raw word is a 32-bit pattern. DESIGN CHOICE (log 15). -/
def rawFits (v : Int) : Bool := decide (0 ≤ v ∧ v ≤ 0xFFFFFFFF)

/-- Every operand of the line fits its field (30_encoding.md R79). -/
def SourceLine.wellFormed : SourceLine → Bool
  | .nop | .commit | .step | .clrerr => true
  | .wr r v => r.fits && immFits v
  | .rd r => r.fits
  | .sine v | .clip v | .mtof v | .dbtoa v => immFits v
  | .sinex x | .clipx x => longFits x
  | .rd48 _ => true
  | .setp r v => r.fits && immFits v
  | .setall g n m d r => immFits g && immFits n && immFits m && immFits d && immFits r
  | .render n => decide (0 ≤ n)
  | .rawWord w => rawFits w

end Sys2Proof
end

