-- ==== Sys2Proof/Decode.lean ====
section
/-! DEFINITION. Command words: the fields (30_encoding.md R71), the decoder, total over all words and rejecting by name
(R75 to R78), the encoder (R79) and the opcode table (R74). -/

namespace Sys2Proof

/-- The field `op`, bits 31:28 (30_encoding.md R71). -/
def opField (w : CmdWord) : BitVec 4 := w.extractLsb' 28 4

/-- The field `rsv`, bits 27:21 (30_encoding.md R71). -/
def rsvField (w : CmdWord) : BitVec 7 := w.extractLsb' 21 7

/-- The field `addr`, bits 20:16 (30_encoding.md R71). -/
def addrField (w : CmdWord) : RegAddr := w.extractLsb' 16 5

/-- The field `imm16`, bits 15:0 (30_encoding.md R71). -/
def immField (w : CmdWord) : Half := w.extractLsb' 0 16

/-- `{op, rsv, addr, imm16}` (30_encoding.md R71), the concatenation of 00_scope.md R10. -/
def assembleFields (op : BitVec 4) (rsv : BitVec 7) (addr : RegAddr) (imm : Half) : CmdWord :=
  op ++ rsv ++ addr ++ imm

/-- Why a word is no command (30_encoding.md R75, R76). -/
inductive Illegal where
  /-- The opcode is reserved. -/
  | illegalOpcode
  /-- The opcode is defined and `rsv` is not zero; the opcode is kept for the outputs of R76. -/
  | reservedField (op : BitVec 4)
deriving DecidableEq, Repr

/-- What a word is: one of the ten commands or an illegal word (30_encoding.md R77). -/
inductive Decoded where
  | command (i : Instr)
  | illegal (e : Illegal)
deriving DecidableEq, Repr

/-- The command of a defined opcode (30_encoding.md R78); a reserved one has none. -/
def commandOf (op : BitVec 4) (addr : RegAddr) (imm : Half) : Option Instr :=
  match op.toNat with
  | 0x0 => some .nop
  | 0x1 => some (.wr addr imm)
  | 0x2 => some (.rd addr)
  | 0x3 => some .commit
  | 0x4 => some .step
  | 0x5 => some (.sine imm)
  | 0x6 => some (.clip imm)
  | 0x7 => some (.mtof imm)
  | 0x8 => some (.dbtoa imm)
  | 0x9 => some .clrerr
  | _ => none

/-- The decoder (30_encoding.md R78): a reserved opcode first, then a reserved field, then the command. -/
def decode (w : CmdWord) : Decoded :=
  match commandOf (opField w) (addrField w) (immField w) with
  | none => .illegal .illegalOpcode
  | some i => if rsvField w = 0 then .command i else .illegal (.reservedField (opField w))

/-- The word the assembler makes of a command: unused fields and `rsv` are zero (30_encoding.md R79). -/
def encode : Instr → CmdWord
  | .nop => assembleFields 0x0 0 0 0
  | .wr addr imm => assembleFields 0x1 0 addr imm
  | .rd addr => assembleFields 0x2 0 addr 0
  | .commit => assembleFields 0x3 0 0 0
  | .step => assembleFields 0x4 0 0 0
  | .sine imm => assembleFields 0x5 0 0 imm
  | .clip imm => assembleFields 0x6 0 0 imm
  | .mtof imm => assembleFields 0x7 0 0 imm
  | .dbtoa imm => assembleFields 0x8 0 0 imm
  | .clrerr => assembleFields 0x9 0 0 0

/-- A row of the opcode map (30_encoding.md R74). -/
structure OpcodeRow where
  mnemonic : String
  pattern : CmdWord
  mask : CmdWord
deriving DecidableEq, Repr

/-- A word is the command of a row "exactly when `(w & mask_r) == match_r`" (30_encoding.md R74). -/
def OpcodeRow.matchesWord (r : OpcodeRow) (w : CmdWord) : Bool := (w &&& r.mask) == r.pattern

/-- The row of the opcode map a command belongs to (30_encoding.md R74). -/
def opcodeRow : Instr → OpcodeRow
  | .nop => ⟨"NOP", 0x00000000, 0xFFE00000⟩
  | .wr _ _ => ⟨"WR", 0x10000000, 0xFFE00000⟩
  | .rd _ => ⟨"RD", 0x20000000, 0xFFE00000⟩
  | .commit => ⟨"COMMIT", 0x30000000, 0xFFE00000⟩
  | .step => ⟨"STEP", 0x40000000, 0xFFE00000⟩
  | .sine _ => ⟨"SINE", 0x50000000, 0xFFE00000⟩
  | .clip _ => ⟨"CLIP", 0x60000000, 0xFFE00000⟩
  | .mtof _ => ⟨"MTOF", 0x70000000, 0xFFE00000⟩
  | .dbtoa _ => ⟨"DBTOA", 0x80000000, 0xFFE00000⟩
  | .clrerr => ⟨"CLRERR", 0x90000000, 0xFFE00000⟩

/-- The instruction the decoder reads from a word given as a number of `nbits` bits; none where it refuses. The command
word moves as one parallel word (20_memory.md R53), so bit 0 of the number is bit 0 of `cmd_data`. -/
def decodeTableWord (nbits w : Nat) : Option Instr :=
  match decode (BitVec.ofNat 32 (w % 2 ^ nbits)) with
  | .command i => some i
  | .illegal _ => none

end Sys2Proof
end

