-- ==== Sys2Proof/Machine/State.lean ====
section
/-! DEFINITION. The state of FMCORE (10_state.md R20), what its host will do next and what it last emitted, and the
state after reset (70_reset_and_hazards.md R400). -/

namespace Sys2Proof.Machine

/-- The five members of a parameter set, in the order of their index (10_state.md R23). -/
inductive ParamIdx where
  | gainDb | note | modNote | depthDb | drive
deriving DecidableEq, Repr

/-- A parameter set: five codes in signed Q8.8 (10_state.md R23). -/
structure Params where
  gainDb : Half
  note : Half
  modNote : Half
  depthDb : Half
  drive : Half
deriving DecidableEq, Repr

/-- What one command emits (44_host_commands.md R200): at most one response or one sample. -/
inductive Output where
  | none
  | rsp (d : Half)
  | smp (o : Wide)
deriving DecidableEq, Repr

/-- What the host does to FMCORE at the level of commands: it presents a command word, or resets the block between two
commands (20_memory.md R58, R59; 70_reset_and_hazards.md R402). -/
inductive HostInput where
  | command (w : CmdWord)
  | reset
deriving DecidableEq, Repr

/-- The machine. The first ten fields are the record of 10_state.md R20. -/
structure State where
  /-- `PHC`, the carrier phase (10_state.md R21). -/
  phc : Phase
  /-- `PHM`, the modulator phase (10_state.md R22). -/
  phm : Phase
  /-- `STG[0..4]`, the staging parameters (10_state.md R24). -/
  stg : Params
  /-- `ACT[0..4]`, the active parameters (10_state.md R25). -/
  act : Params
  /-- `OPH` (10_state.md R26). -/
  oph : Half
  /-- `OUT` (10_state.md R27). -/
  out : Wide
  /-- `RES` (10_state.md R28). -/
  res : Wide
  /-- `PEND` (10_state.md R29). -/
  pend : Bool
  /-- `ERR` (10_state.md R29). -/
  err : Bool
  /-- `ECODE` (10_state.md R29). -/
  ecode : BitVec 4
  /-- `FS_HZ`, fixed when the block is built: no step changes it (00_scope.md R5; DESIGN CHOICE, log 1). -/
  fsHz : Nat
  /-- What the step just taken emitted: the pulse on `rsp_valid` or `smp_valid` (10_state.md R39; DESIGN CHOICE, log 3). -/
  pulse : Output
  /-- What the host will present, the next first (10_state.md R30; DESIGN CHOICE, log 2). -/
  input : List HostInput
deriving DecidableEq, Repr

/-- No step of FMCORE ends in a fault: "No numeric condition is an error" (60_exceptions.md R300) and a command error is
recorded in ERR and ECODE, never by a stop (R302, R304). So there is no reason to name (log 12; safe). -/
inductive Fault where
deriving DecidableEq, Repr

/-- Why a step has no meaning in this model. -/
inductive Refusal where
  /-- An arm of `exec` without a meaning. No arm raises it: every command has its meaning. Safe. -/
  | notModelled (mnemonic : String)
deriving DecidableEq, Repr

/-- All five codes zero (10_state.md R37). -/
def Params.zero : Params := ⟨0, 0, 0, 0, 0⟩

/-- The state after reset of a block built for the sample rate `fs`: every field of R20 zero, no pulse due, and nothing
presented by the host yet (70_reset_and_hazards.md R400, 10_state.md R37). -/
def State.resetAt (fs : Nat) : State where
  phc := 0
  phm := 0
  stg := Params.zero
  act := Params.zero
  oph := 0
  out := 0
  res := 0
  pend := false
  err := false
  ecode := 0
  fsHz := fs
  pulse := .none
  input := []

/-- The machine right after reset, built for the default sample rate (00_scope.md R5; log 1). -/
def State.reset : State := State.resetAt Config.defaultFsHz

end Sys2Proof.Machine
end

