-- ==== Sys2Proof/Machine/Flags.lean ====
section
/-! DEFINITION. The three status fields `PEND`, `ERR` and `ECODE` (10_state.md R29): how they are set, cleared and read. -/

namespace Sys2Proof.Machine

/-- The command errors (60_exceptions.md R301). -/
inductive CmdError where
  | illegalOpcode | reservedField | badAddress | readOnly
deriving DecidableEq, Repr

/-- The code of an error (60_exceptions.md R301). -/
def CmdError.code : CmdError → BitVec 4
  | .illegalOpcode => 1
  | .reservedField => 2
  | .badAddress => 3
  | .readOnly => 4

/-- `raise(S, c)`: `ERR` is set, and `ECODE` if `ERR` was 0 (60_exceptions.md R302). -/
def State.raise (c : CmdError) (s : State) : State :=
  { s with err := true, ecode := if s.err then s.ecode else c.code }

/-- `ERR <- 0; ECODE <- 0` (44_host_commands.md R216): the return from an error (60_exceptions.md R312). -/
def State.clearError (s : State) : State := { s with err := false, ecode := 0 }

/-- A flag as a number. -/
def flagValue (b : Bool) : Nat := if b then 1 else 0

/-- `R[STATUS] = PEND + 2 * ERR + 16 * ECODE` (10_state.md R29). -/
def statusWord (s : State) : Half :=
  BitVec.ofNat 16 (flagValue s.pend + 2 * flagValue s.err + 16 * s.ecode.toNat)

end Sys2Proof.Machine
end

