-- ==== Sys2Proof/Machine/Ops.lean ====
section
/-! DEFINITION. The operations the meanings share: the register map and its reads and writes (10_state.md R32 to R35),
the snapshot (44_host_commands.md R208), outputs (60_exceptions.md R303), command errors, which stand for the taking of an
exception (60_exceptions.md R302, R312), and reset (70_reset_and_hazards.md R400). -/

namespace Sys2Proof.Machine

/-- What stands at a register address (10_state.md R32). -/
inductive Reg where
  | stg (i : ParamIdx)
  | act (i : ParamIdx)
  | oph | status | id
  | out0 | out1 | out2 | res0 | res1 | res2
  | unmapped
deriving DecidableEq, Repr

/-- The register map (10_state.md R32). -/
def regAt (a : RegAddr) : Reg :=
  match a.toNat with
  | 0x00 => .stg .gainDb
  | 0x01 => .stg .note
  | 0x02 => .stg .modNote
  | 0x03 => .stg .depthDb
  | 0x04 => .stg .drive
  | 0x08 => .act .gainDb
  | 0x09 => .act .note
  | 0x0A => .act .modNote
  | 0x0B => .act .depthDb
  | 0x0C => .act .drive
  | 0x0D => .oph
  | 0x0E => .status
  | 0x0F => .id
  | 0x10 => .out0
  | 0x11 => .out1
  | 0x12 => .out2
  | 0x13 => .res0
  | 0x14 => .res1
  | 0x15 => .res2
  | _ => .unmapped

/-- One member of a parameter set (10_state.md R23). -/
def Params.get (p : Params) : ParamIdx → Half
  | .gainDb => p.gainDb
  | .note => p.note
  | .modNote => p.modNote
  | .depthDb => p.depthDb
  | .drive => p.drive

/-- A parameter set with one member replaced (10_state.md R24). -/
def Params.set (p : Params) (i : ParamIdx) (v : Half) : Params :=
  match i with
  | .gainDb => { p with gainDb := v }
  | .note => { p with note := v }
  | .modNote => { p with modNote := v }
  | .depthDb => { p with depthDb := v }
  | .drive => { p with drive := v }

/-- The constant of the `ID` register (10_state.md R38). -/
def idValue : Half := 0x464D

/-- One 16-bit part of a 48-bit register, part 0 the least significant (10_state.md R27, R28; 20_memory.md R53). -/
def widePart (v : Wide) (k : Nat) : Half := v.extractLsb' (16 * k) 16

/-- `read(S, a)` (44_host_commands.md R206); none where nothing is mapped (R205). -/
def readReg (s : State) (a : RegAddr) : Option Half :=
  match regAt a with
  | .stg i => some (s.stg.get i)
  | .act i => some (s.act.get i)
  | .oph => some s.oph
  | .status => some (statusWord s)
  | .id => some idValue
  | .out0 => some (widePart s.out 0)
  | .out1 => some (widePart s.out 1)
  | .out2 => some (widePart s.out 2)
  | .res0 => some (widePart s.res 0)
  | .res1 => some (widePart s.res 1)
  | .res2 => some (widePart s.res 2)
  | .unmapped => none

/-- The command emits `o`, and nothing else (44_host_commands.md R200). -/
def State.emit (o : Output) (s : State) : State := { s with pulse := o }

/-- A command error with its output: the command is not performed, the code is recorded, and `o` is emitted
(60_exceptions.md R302, R303). This is FMCORE's taking of an exception (R312). -/
def State.commandError (c : CmdError) (o : Output) (s : State) : State := (s.raise c).emit o

/-- `STG[i] <- v; PEND <- 1` (44_host_commands.md R201). -/
def State.writeStaging (i : ParamIdx) (v : Half) (s : State) : State :=
  { s with stg := s.stg.set i v, pend := true }

/-- `OPH <- v` (44_host_commands.md R201). -/
def State.writeOph (v : Half) (s : State) : State := { s with oph := v }

/-- `ACT[0..4] <- STG[0..4]; PEND <- 0`, in one indivisible step (44_host_commands.md R208). -/
def State.publish (s : State) : State := { s with act := s.stg, pend := false }

/-- `RES <- v`, all 48 bits (10_state.md R28). -/
def State.writeRes (v : Wide) (s : State) : State := { s with res := v }

/-- The two phases and `OUT` are written, and the new `OUT` is emitted (43_engine_step.md R180, R188). -/
def State.writeSample (phm phc : Phase) (o : Wide) (s : State) : State :=
  { s with phm := phm, phc := phc, out := o, pulse := .smp o }

/-- A write to one register address: it writes a staging register or `OPH`, or it is a command error
(44_host_commands.md R201 to R203). -/
def writeReg (a : RegAddr) (v : Half) (s : State) : State :=
  match regAt a with
  | .unmapped => s.commandError .badAddress .none
  | .stg i => (s.writeStaging i v).emit .none
  | .oph => (s.writeOph v).emit .none
  | _ => s.commandError .readOnly .none

/-- What an illegal word records and emits (30_encoding.md R75, R76; 60_exceptions.md R303): an illegal `RD` answers
`0x0000` and an illegal `STEP` pulses with the unchanged `OUT`. -/
def State.illegalWord (e : Illegal) (s : State) : State :=
  match e with
  | .illegalOpcode => s.commandError .illegalOpcode .none
  | .reservedField op =>
    s.commandError .reservedField (if op = 0x2 then .rsp 0 else if op = 0x4 then .smp s.out else .none)

/-- Nothing is presented: "idleness changes no state" (60_exceptions.md R334), and a pulse lasts one cycle
(70_reset_and_hazards.md R414). DEDUCED, log 4. -/
def State.idle (s : State) : State := s.emit .none

/-- Reset between two commands: the state is replaced by the reset state; the configuration is not affected, and what
the host does next is the host's (70_reset_and_hazards.md R400, R402). DEDUCED, log 5. -/
def State.afterReset (s : State) : State := { State.resetAt s.fsHz with input := s.input }

end Sys2Proof.Machine
end

