-- ==== Sys2Proof/Machine/Control.lean ====
section
/-! DEFINITION. The control commands `NOP` and `CLRERR` (44_host_commands.md R215, R216). -/

namespace Sys2Proof.Machine

/-- `NOP`: no state changes and nothing is emitted (44_host_commands.md R215). -/
def execNop (s : State) : Host.Outcome State Fault Refusal := .next (s.emit .none)

/-- `CLRERR`: `ERR` and `ECODE` are cleared (44_host_commands.md R216). -/
def execClrerr (s : State) : Host.Outcome State Fault Refusal := .next (s.clearError.emit .none)

end Sys2Proof.Machine
end

