-- ==== Sys2Proof/Machine/Fixed.lean ====
section
/-! DEFINITION. The arithmetic of the pseudocode: exact integers, slices, extensions, shifts and reductions
(00_scope.md R9 to R12), and what a fixed-point pattern stands for (R13). -/

namespace Sys2Proof.Machine

/-- `v[hi:lo]`, defined also for negative `v` (00_scope.md R10). -/
def slice (v : Int) (hi lo : Nat) : Nat := (v / 2 ^ lo % 2 ^ (hi - lo + 1)).toNat

/-- `zext_N(v)`, the unsigned value of the low `N` bits (00_scope.md R11). -/
def zext (n : Nat) (v : Int) : Int := v % 2 ^ n

/-- `sext_N(v)`, the two's complement value of the low `N` bits (00_scope.md R11). For a pattern of `N` bits it is
`BitVec.toInt`. -/
def sext (n : Nat) (v : Int) : Int := v % 2 ^ n - 2 ^ n * (v / 2 ^ (n - 1) % 2)

/-- `w32(v)`, the 32-bit pattern of `v mod 2^32` (00_scope.md R11). -/
def w32 (v : Int) : BitVec 32 := BitVec.ofInt 32 v

/-- `w48(v)`, the 48-bit pattern of `v mod 2^48` (00_scope.md R11). -/
def w48 (v : Int) : BitVec 48 := BitVec.ofInt 48 v

/-- `asr(v, k)`, rounding toward minus infinity (00_scope.md R12). -/
def asr (v : Int) (k : Nat) : Int := v / 2 ^ k

/-- `shl(v, k)` (00_scope.md R12). -/
def shl (v : Int) (k : Nat) : Int := v * 2 ^ k

/-- `rshr(v, s)`: round half up to an integer, or scale up where `s <= 0` (00_scope.md R12). -/
def rshr (v s : Int) : Int :=
  if s ≤ 0 then shl v (-s).toNat else asr (v + 2 ^ (s.toNat - 1)) s.toNat

/-- `fdiv(a, b)`, for `b > 0` (00_scope.md R12). -/
def fdiv (a b : Int) : Int := a / b

/-- `fmod(a, b)`, for `b > 0`, in `[0, b)` (00_scope.md R12). -/
def fmod (a b : Int) : Int := a - b * fdiv a b

/-- The number a pattern in signed QI.F stands for (00_scope.md R13). -/
def signedQ {n : Nat} (f : Nat) (p : BitVec n) : Rat := (p.toInt : Rat) / 2 ^ f

/-- The number a pattern in unsigned QI.F stands for (00_scope.md R13). -/
def unsignedQ {n : Nat} (f : Nat) (p : BitVec n) : Rat := (p.toNat : Rat) / 2 ^ f

end Sys2Proof.Machine
end

