-- ==== Sys2Proof/Machine/Clipper.lean ====
section
/-! DEFINITION. The soft-clipping waveshaper (41_soft_clipper.md). -/

namespace Sys2Proof.Machine

/-- `clip(x)`: saturation outside (-1, 1) and the cubic inside, in Q.23 (41_soft_clipper.md R130). -/
def clip (x : Int) : Int :=
  if 2 ^ 23 ≤ x then 2 ^ 23
  else if x ≤ -2 ^ 23 then -2 ^ 23
  else
    let x2 := asr (x * x) 23
    let x3 := asr (x2 * x) 23
    asr (3 * x - x3) 1

end Sys2Proof.Machine
end

