-- ==== Sys2Proof/Machine/Rom.lean ====
section
/-! DEFINITION. The constant tables of the parameter mapping, entry by entry as the spec gives them
(42_parameter_mapping.md R150 to R153), eight entries a row as there, and the constant L20 (R154). -/

namespace Sys2Proof.Machine

/-- Entry `i` of a table written in rows of eight (00_scope.md R15). -/
def romEntry (rows : List (List Nat)) (i : Nat) : Nat := (rows.getD (i / 8) []).getD (i % 8) 0

/-- `SEMI_ROM[s]`, the equal-tempered semitone ratios (42_parameter_mapping.md R150). -/
def semiRom (s : Nat) : Nat :=
  [65536, 69433, 73562, 77936, 82570, 87480, 92682, 98193, 104032, 110218, 116772, 123715].getD s 0

/-- Entries 0 to 63 of `NFRAC_ROM`. -/
def nfracRows0 : List (List Nat) :=
  [ [65536, 65551, 65566, 65580, 65595, 65610, 65625, 65640],
    [65654, 65669, 65684, 65699, 65714, 65729, 65743, 65758],
    [65773, 65788, 65803, 65818, 65832, 65847, 65862, 65877],
    [65892, 65907, 65922, 65936, 65951, 65966, 65981, 65996],
    [66011, 66026, 66041, 66056, 66071, 66085, 66100, 66115],
    [66130, 66145, 66160, 66175, 66190, 66205, 66220, 66235],
    [66250, 66265, 66280, 66294, 66309, 66324, 66339, 66354],
    [66369, 66384, 66399, 66414, 66429, 66444, 66459, 66474] ]

/-- Entries 64 to 127 of `NFRAC_ROM`. -/
def nfracRows1 : List (List Nat) :=
  [ [66489, 66504, 66519, 66534, 66549, 66564, 66579, 66594],
    [66609, 66624, 66639, 66654, 66670, 66685, 66700, 66715],
    [66730, 66745, 66760, 66775, 66790, 66805, 66820, 66835],
    [66850, 66865, 66880, 66896, 66911, 66926, 66941, 66956],
    [66971, 66986, 67001, 67016, 67032, 67047, 67062, 67077],
    [67092, 67107, 67122, 67137, 67153, 67168, 67183, 67198],
    [67213, 67228, 67244, 67259, 67274, 67289, 67304, 67320],
    [67335, 67350, 67365, 67380, 67395, 67411, 67426, 67441] ]

/-- Entries 128 to 191 of `NFRAC_ROM`. -/
def nfracRows2 : List (List Nat) :=
  [ [67456, 67472, 67487, 67502, 67517, 67532, 67548, 67563],
    [67578, 67593, 67609, 67624, 67639, 67655, 67670, 67685],
    [67700, 67716, 67731, 67746, 67761, 67777, 67792, 67807],
    [67823, 67838, 67853, 67869, 67884, 67899, 67915, 67930],
    [67945, 67961, 67976, 67991, 68007, 68022, 68037, 68053],
    [68068, 68083, 68099, 68114, 68129, 68145, 68160, 68176],
    [68191, 68206, 68222, 68237, 68252, 68268, 68283, 68299],
    [68314, 68330, 68345, 68360, 68376, 68391, 68407, 68422] ]

/-- Entries 192 to 255 of `NFRAC_ROM`. -/
def nfracRows3 : List (List Nat) :=
  [ [68438, 68453, 68468, 68484, 68499, 68515, 68530, 68546],
    [68561, 68577, 68592, 68608, 68623, 68639, 68654, 68670],
    [68685, 68701, 68716, 68732, 68747, 68763, 68778, 68794],
    [68809, 68825, 68840, 68856, 68871, 68887, 68902, 68918],
    [68933, 68949, 68965, 68980, 68996, 69011, 69027, 69042],
    [69058, 69074, 69089, 69105, 69120, 69136, 69152, 69167],
    [69183, 69198, 69214, 69230, 69245, 69261, 69276, 69292],
    [69308, 69323, 69339, 69355, 69370, 69386, 69402, 69417] ]

/-- `NFRAC_ROM[i]`, the ratio of `i/256` of a semitone (42_parameter_mapping.md R151). -/
def nfracRom (i : Nat) : Nat := romEntry (nfracRows0 ++ nfracRows1 ++ nfracRows2 ++ nfracRows3) i

/-- Entries 0 to 63 of `EHI_ROM`. -/
def ehiRows0 : List (List Nat) :=
  [ [65536, 65714, 65892, 66071, 66250, 66429, 66609, 66790],
    [66971, 67153, 67335, 67517, 67700, 67884, 68068, 68252],
    [68438, 68623, 68809, 68996, 69183, 69370, 69558, 69747],
    [69936, 70126, 70316, 70507, 70698, 70889, 71082, 71274],
    [71468, 71661, 71856, 72050, 72246, 72442, 72638, 72835],
    [73032, 73230, 73429, 73628, 73828, 74028, 74229, 74430],
    [74632, 74834, 75037, 75240, 75444, 75649, 75854, 76060],
    [76266, 76473, 76680, 76888, 77096, 77305, 77515, 77725] ]

/-- Entries 64 to 127 of `EHI_ROM`. -/
def ehiRows1 : List (List Nat) :=
  [ [77936, 78147, 78359, 78572, 78785, 78998, 79212, 79427],
    [79642, 79858, 80075, 80292, 80510, 80728, 80947, 81166],
    [81386, 81607, 81828, 82050, 82273, 82496, 82719, 82944],
    [83169, 83394, 83620, 83847, 84074, 84302, 84531, 84760],
    [84990, 85220, 85451, 85683, 85915, 86148, 86382, 86616],
    [86851, 87086, 87322, 87559, 87796, 88034, 88273, 88513],
    [88752, 88993, 89234, 89476, 89719, 89962, 90206, 90451],
    [90696, 90942, 91188, 91436, 91684, 91932, 92181, 92431] ]

/-- Entries 128 to 191 of `EHI_ROM`. -/
def ehiRows2 : List (List Nat) :=
  [ [92682, 92933, 93185, 93438, 93691, 93945, 94200, 94455],
    [94711, 94968, 95226, 95484, 95743, 96002, 96263, 96524],
    [96785, 97048, 97311, 97575, 97839, 98104, 98370, 98637],
    [98905, 99173, 99442, 99711, 99982, 100253, 100524, 100797],
    [101070, 101344, 101619, 101895, 102171, 102448, 102726, 103004],
    [103283, 103564, 103844, 104126, 104408, 104691, 104975, 105260],
    [105545, 105831, 106118, 106406, 106694, 106984, 107274, 107565],
    [107856, 108149, 108442, 108736, 109031, 109326, 109623, 109920] ]

/-- Entries 192 to 255 of `EHI_ROM`. -/
def ehiRows3 : List (List Nat) :=
  [ [110218, 110517, 110816, 111117, 111418, 111720, 112023, 112327],
    [112631, 112937, 113243, 113550, 113858, 114167, 114476, 114787],
    [115098, 115410, 115723, 116036, 116351, 116667, 116983, 117300],
    [117618, 117937, 118257, 118577, 118899, 119221, 119544, 119869],
    [120194, 120519, 120846, 121174, 121502, 121832, 122162, 122493],
    [122825, 123158, 123492, 123827, 124163, 124500, 124837, 125176],
    [125515, 125855, 126197, 126539, 126882, 127226, 127571, 127917],
    [128263, 128611, 128960, 129310, 129660, 130012, 130364, 130718] ]

/-- `EHI_ROM[i]`, the ratio of `i/256` of an octave (42_parameter_mapping.md R152). -/
def ehiRom (i : Nat) : Nat := romEntry (ehiRows0 ++ ehiRows1 ++ ehiRows2 ++ ehiRows3) i

/-- Entries 0 to 63 of `ELO_ROM`. -/
def eloRows0 : List (List Nat) :=
  [ [65536, 65537, 65537, 65538, 65539, 65539, 65540, 65541],
    [65542, 65542, 65543, 65544, 65544, 65545, 65546, 65546],
    [65547, 65548, 65548, 65549, 65550, 65551, 65551, 65552],
    [65553, 65553, 65554, 65555, 65555, 65556, 65557, 65557],
    [65558, 65559, 65560, 65560, 65561, 65562, 65562, 65563],
    [65564, 65564, 65565, 65566, 65567, 65567, 65568, 65569],
    [65569, 65570, 65571, 65571, 65572, 65573, 65573, 65574],
    [65575, 65576, 65576, 65577, 65578, 65578, 65579, 65580] ]

/-- Entries 64 to 127 of `ELO_ROM`. -/
def eloRows1 : List (List Nat) :=
  [ [65580, 65581, 65582, 65582, 65583, 65584, 65585, 65585],
    [65586, 65587, 65587, 65588, 65589, 65589, 65590, 65591],
    [65591, 65592, 65593, 65594, 65594, 65595, 65596, 65596],
    [65597, 65598, 65598, 65599, 65600, 65600, 65601, 65602],
    [65603, 65603, 65604, 65605, 65605, 65606, 65607, 65607],
    [65608, 65609, 65610, 65610, 65611, 65612, 65612, 65613],
    [65614, 65614, 65615, 65616, 65616, 65617, 65618, 65619],
    [65619, 65620, 65621, 65621, 65622, 65623, 65623, 65624] ]

/-- Entries 128 to 191 of `ELO_ROM`. -/
def eloRows2 : List (List Nat) :=
  [ [65625, 65625, 65626, 65627, 65628, 65628, 65629, 65630],
    [65630, 65631, 65632, 65632, 65633, 65634, 65635, 65635],
    [65636, 65637, 65637, 65638, 65639, 65639, 65640, 65641],
    [65641, 65642, 65643, 65644, 65644, 65645, 65646, 65646],
    [65647, 65648, 65648, 65649, 65650, 65650, 65651, 65652],
    [65653, 65653, 65654, 65655, 65655, 65656, 65657, 65657],
    [65658, 65659, 65659, 65660, 65661, 65662, 65662, 65663],
    [65664, 65664, 65665, 65666, 65666, 65667, 65668, 65669] ]

/-- Entries 192 to 255 of `ELO_ROM`. -/
def eloRows3 : List (List Nat) :=
  [ [65669, 65670, 65671, 65671, 65672, 65673, 65673, 65674],
    [65675, 65675, 65676, 65677, 65678, 65678, 65679, 65680],
    [65680, 65681, 65682, 65682, 65683, 65684, 65685, 65685],
    [65686, 65687, 65687, 65688, 65689, 65689, 65690, 65691],
    [65691, 65692, 65693, 65694, 65694, 65695, 65696, 65696],
    [65697, 65698, 65698, 65699, 65700, 65700, 65701, 65702],
    [65703, 65703, 65704, 65705, 65705, 65706, 65707, 65707],
    [65708, 65709, 65710, 65710, 65711, 65712, 65712, 65713] ]

/-- `ELO_ROM[i]`, the ratio of `i/65536` of an octave (42_parameter_mapping.md R153). -/
def eloRom (i : Nat) : Nat := romEntry (eloRows0 ++ eloRows1 ++ eloRows2 ++ eloRows3) i

/-- `L20`, the octaves per decibel in Q0.20 (42_parameter_mapping.md R154). -/
def l20 : Int := 174165

end Sys2Proof.Machine
end

