-- ==== Sys2Proof/Machine/Mapping.lean ====
section
/-! DEFINITION. The fixed-point parameter mapping: notes to phase increments, decibels to linear factors
(42_parameter_mapping.md). -/

namespace Sys2Proof.Machine

/-- `KA4`, the increment of 440 Hz in units of 2^-16 phase LSB (00_scope.md R6; a rate of 0 is log 16). -/
def ka4 (fs : Nat) : Int := (440 * 2 ^ 49 + (fs : Int)) / (2 * fs)

/-- `KHZ`, the increment of 1 Hz in the same units (00_scope.md R6; a rate of 0 is log 16). -/
def khz (fs : Nat) : Int := (2 ^ 49 + (fs : Int)) / (2 * fs)

/-- `d`, in 1/256 semitone above A4 (42_parameter_mapping.md R156). -/
def noteOffset (c : Half) : Int := c.toInt - 69 * 256

/-- `si`, the whole semitones above A4 (42_parameter_mapping.md R156). -/
def noteSemitones (c : Half) : Int := asr (noteOffset c) 8

/-- `fr`, the fraction of a semitone in 1/256 (42_parameter_mapping.md R156). -/
def noteFraction (c : Half) : Nat := slice (noteOffset c) 7 0

/-- `oct`, the whole octaves above A4 (42_parameter_mapping.md R156). -/
def noteOctave (c : Half) : Int := fdiv (noteSemitones c) 12

/-- `s`, the semitone within the octave (42_parameter_mapping.md R156). -/
def noteSemitone (c : Half) : Nat := (fmod (noteSemitones c) 12).toNat

/-- `mant`, the ratio within the octave in Q1.16 (42_parameter_mapping.md R156). -/
def noteMantissa (c : Half) : Int := rshr (semiRom (noteSemitone c) * nfracRom (noteFraction c) : Nat) 16

/-- The increment before its reduction modulo 2^32 (42_parameter_mapping.md R156). -/
def noteIncrement (fs : Nat) (c : Half) : Int := rshr (ka4 fs * noteMantissa c) (32 - noteOctave c)

/-- `mtof(c)` at the sample rate `fs` (42_parameter_mapping.md R156). -/
def mtof (fs : Nat) (c : Half) : Phase := w32 (noteIncrement fs c)

/-- `e`, the octaves in Q.28 (42_parameter_mapping.md R160). -/
def decibelOctaves (c : Half) : Int := c.toInt * l20

/-- `oct`, the whole octaves (42_parameter_mapping.md R160). -/
def decibelOctave (c : Half) : Int := asr (decibelOctaves c) 28

/-- `fh`, the coarse fraction of an octave: bits 27:20 of `e` (42_parameter_mapping.md R160). -/
def decibelHigh (c : Half) : Nat := slice (slice (decibelOctaves c) 27 0) 27 20

/-- `fl`, the fine fraction of an octave: bits 19:12 of `e` (42_parameter_mapping.md R160). -/
def decibelLow (c : Half) : Nat := slice (slice (decibelOctaves c) 27 0) 19 12

/-- `mant`, in Q1.16 (42_parameter_mapping.md R160). -/
def decibelMantissa (c : Half) : Int := rshr (ehiRom (decibelHigh c) * eloRom (decibelLow c) : Nat) 16

/-- `dbtoa(c)`: the mantissa and the octave of the linear factor `mant * 2^oct / 2^16` (42_parameter_mapping.md R160). -/
def dbtoa (c : Half) : Int × Int := (decibelMantissa c, decibelOctave c)

end Sys2Proof.Machine
end

