-- ==== Sys2Proof/Machine/Oscillator.lean ====
section
/-! DEFINITION. The phase accumulator and the polynomial sine (40_phase_accumulator.md). -/

namespace Sys2Proof.Machine

/-- `phase_add(P, inc)`: PhaseWrap into [-1, 1) is reduction modulo 2^32 (40_phase_accumulator.md R101). -/
def phaseAdd (p inc : Phase) : Phase := p + inc

/-- The frequency in hertz that an increment pattern is read as: `sext_32(inc) * FS_HZ / 2^32`
(40_phase_accumulator.md R100). -/
def incrementHz (fs : Nat) (inc : Phase) : Rat := (inc.toInt : Rat) * fs / 2 ^ 32

/-- `C1` (40_phase_accumulator.md R105). -/
def sineC1 : Int := 26332128

/-- `C3` (40_phase_accumulator.md R105). -/
def sineC3 : Int := -43066296

/-- `C5` (40_phase_accumulator.md R105). -/
def sineC5 : Int := 20372901

/-- `C7` (40_phase_accumulator.md R105). -/
def sineC7 : Int := -3638733

/-- `n`, the top 24 bits of the phase (40_phase_accumulator.md R104). -/
def sineArg (p : Phase) : Int := asr p.toInt 8

/-- `nn`, the square of the argument in Q.23 (40_phase_accumulator.md R106). -/
def sineSquare (n : Int) : Int := asr (n * n) 23

/-- The second value of `t` in R106's Horner chain. -/
def hornerC5 (nn : Int) : Int := sineC5 + asr (nn * sineC7) 23

/-- The third value of `t` in R106's Horner chain. -/
def hornerC3 (nn : Int) : Int := sineC3 + asr (nn * hornerC5 nn) 23

/-- The last value of `t` in R106's Horner chain. -/
def hornerC1 (nn : Int) : Int := sineC1 + asr (nn * hornerC3 nn) 23

/-- The polynomial at an argument `n` (40_phase_accumulator.md R106). -/
def sinePoly (n : Int) : Int := asr (n * hornerC1 (sineSquare n)) 23

/-- `sine(P)`, in signed Q2.23 (40_phase_accumulator.md R106). -/
def sine (p : Phase) : Int := sinePoly (sineArg p)

/-- `advance(PH, inc)`: the sine of the phase before the update, and the phase after it
(40_phase_accumulator.md R103). -/
def advance (ph inc : Phase) : Int × Phase := (sine ph, phaseAdd ph inc)

end Sys2Proof.Machine
end

