-- ==== Sys2Proof/Machine/Engine.lean ====
section
/-! DEFINITION. The `STEP` command: one sample of the engine (43_engine_step.md). -/

namespace Sys2Proof.Machine

/-- `x`, the driven modulator sample in Q.23 (43_engine_step.md R184). -/
def driveProduct (drive : Half) (ms : Int) : Int := asr (drive.toInt * ms) 8

/-- `delta`, the modulation as a phase increment, with one rounding (43_engine_step.md R186). -/
def modulationDelta (fs : Nat) (depth : Half) (shaped : Int) : Int :=
  rshr (khz fs * (dbtoa depth).1 * shaped) (55 - (dbtoa depth).2)

/-- `cinc`, the increment of the carrier (43_engine_step.md R186). -/
def carrierIncrement (fs : Nat) (p : Params) (ms : Int) : Phase :=
  w32 ((mtof fs p.note).toNat + modulationDelta fs p.depthDb (clip (driveProduct p.drive ms)))

/-- `out`, the carrier sample after the gain, in Q.23 (43_engine_step.md R188). -/
def gainProduct (gain : Half) (cs : Int) : Int := rshr (cs * (dbtoa gain).1) (16 - (dbtoa gain).2)

/-- `STEP` (43_engine_step.md R180): the modulator advances, its shaped sample offsets the carrier's increment, the
carrier advances, and its sample times the gain is the output. Both samples are sines of the phases before the command. -/
def execStep (s : State) : Host.Outcome State Fault Refusal :=
  let m := advance s.phm (mtof s.fsHz s.act.modNote)
  let c := advance s.phc (carrierIncrement s.fsHz s.act m.1)
  .next (s.writeSample m.2 c.2 (w48 (gainProduct s.act.gainDb c.1)))

end Sys2Proof.Machine
end

