-- ==== Sys2Proof/Machine/Operands.lean ====
section
/-! DEFINITION. How the operands of the commands are assembled (30_encoding.md R72, R73), and how a result is laid out in
`RES` (44_host_commands.md R212 to R217). -/

namespace Sys2Proof.Machine

/-- `{R[OPH], imm16}`, the 32-bit operand of `SINE` and `CLIP` (30_encoding.md R73, 10_state.md R26). -/
def longOperand (oph imm : Half) : BitVec 32 := oph ++ imm

/-- The phase pattern `X` of `SINE` (30_encoding.md R73). -/
def sineOperand (s : State) (imm : Half) : Phase := longOperand s.oph imm

/-- The input `x = sext_32({R[OPH], imm16})` of `CLIP` (30_encoding.md R73). -/
def clipOperand (s : State) (imm : Half) : Int := (longOperand s.oph imm).toInt

/-- `zext_48` of an increment pattern (44_host_commands.md R214). -/
def incrementResult (inc : Phase) : Wide := inc.setWidth 48

/-- `zext_48(m) | zext_48(o mod 2^8) << 24` (44_host_commands.md R217). -/
def factorResult (m o : Int) : Wide := BitVec.ofInt 48 m ||| ((BitVec.ofInt 8 o).setWidth 48 <<< 24)

end Sys2Proof.Machine
end

