-- ==== Sys2Proof/Machine/FunctionUnit.lean ====
section
/-! DEFINITION. The function-unit commands `SINE`, `CLIP`, `MTOF`, `DBTOA` (44_host_commands.md R212 to R217): each writes all 48
bits of `RES` and emits nothing. -/

namespace Sys2Proof.Machine

/-- `SINE v` (44_host_commands.md R212). -/
def execSine (v : Half) (s : State) : Host.Outcome State Fault Refusal :=
  .next ((s.writeRes (w48 (sine (sineOperand s v)))).emit .none)

/-- `CLIP v` (44_host_commands.md R213). -/
def execClip (v : Half) (s : State) : Host.Outcome State Fault Refusal :=
  .next ((s.writeRes (w48 (clip (clipOperand s v)))).emit .none)

/-- `MTOF v` (44_host_commands.md R214). -/
def execMtof (v : Half) (s : State) : Host.Outcome State Fault Refusal :=
  .next ((s.writeRes (incrementResult (mtof s.fsHz v))).emit .none)

/-- `DBTOA v` (44_host_commands.md R217). -/
def execDbtoa (v : Half) (s : State) : Host.Outcome State Fault Refusal :=
  .next ((s.writeRes (factorResult (dbtoa v).1 (dbtoa v).2)).emit .none)

end Sys2Proof.Machine
end

