-- ==== Sys2Proof/Machine/Register.lean ====
section
/-! DEFINITION. Register access and the parameter snapshot: `WR`, `RD`, `COMMIT` (44_host_commands.md R201 to R208). -/

namespace Sys2Proof.Machine

/-- `WR a, v` (44_host_commands.md R201 to R203). -/
def execWr (a : RegAddr) (v : Half) (s : State) : Host.Outcome State Fault Refusal := .next (writeReg a v s)

/-- `RD a`: one response, the register's value, or `0x0000` with the error `BAD_ADDRESS` where nothing is mapped
(44_host_commands.md R204 to R206). -/
def execRd (a : RegAddr) (s : State) : Host.Outcome State Fault Refusal :=
  match readReg s a with
  | some d => .next (s.emit (.rsp d))
  | none => .next (s.commandError .badAddress (.rsp 0))

/-- `COMMIT` (44_host_commands.md R208). -/
def execCommit (s : State) : Host.Outcome State Fault Refusal := .next (s.publish.emit .none)

end Sys2Proof.Machine
end

