-- ==== Sys2Proof/Machine/Dispatch.lean ====
section
/-! DEFINITION. The meaning of every command, one arm each (30_encoding.md R74, 44_host_commands.md R200). -/

namespace Sys2Proof.Machine

def exec (i : Instr) (s : State) : Host.Outcome State Fault Refusal :=
  match i with
  | .nop => Sys2Proof.Machine.execNop s
  | .wr addr imm => Sys2Proof.Machine.execWr addr imm s
  | .rd addr => Sys2Proof.Machine.execRd addr s
  | .commit => Sys2Proof.Machine.execCommit s
  | .step => Sys2Proof.Machine.execStep s
  | .sine imm => Sys2Proof.Machine.execSine imm s
  | .clip imm => Sys2Proof.Machine.execClip imm s
  | .mtof imm => Sys2Proof.Machine.execMtof imm s
  | .dbtoa imm => Sys2Proof.Machine.execDbtoa imm s
  | .clrerr => Sys2Proof.Machine.execClrerr s

end Sys2Proof.Machine
end

