-- ==== Sys2Proof/Machine/Accept.lean ====
section
/-! DEFINITION. What FMCORE does with what the host presents: a command word (44_host_commands.md R200), a reset
(70_reset_and_hazards.md R402), or nothing (60_exceptions.md R334). -/

namespace Sys2Proof.Machine

/-- `exec(S, w)` of 44_host_commands.md R200: a command is executed, an illegal word is recorded. -/
def acceptWord (w : CmdWord) (s : State) : Host.Outcome State Fault Refusal :=
  match decode w with
  | .command i => exec i s
  | .illegal e => .next (s.illegalWord e)

/-- One input of the host, or none. -/
def acceptInput (h : Option HostInput) (s : State) : Host.Outcome State Fault Refusal :=
  match h with
  | none => .next s.idle
  | some .reset => .next s.afterReset
  | some (.command w) => acceptWord w s

/-- The host has presented its next input (20_memory.md R58). -/
def State.takeInput (s : State) : State := { s with input := s.input.tail }

/-- The host will present a command word next. -/
def State.presentWord (w : CmdWord) (s : State) : State := { s with input := .command w :: s.input }

end Sys2Proof.Machine
end

