-- ==== Sys2Proof/Machine/Step.lean ====
section
/-! DEFINITION. One step: FMCORE takes the host's next input and acts on it (20_memory.md R58). -/

namespace Sys2Proof.Machine

/-- One step of the machine. -/
def step (s : State) : Host.Outcome State Fault Refusal := acceptInput s.input.head? s.takeInput

/-- The state in which the host presents, next, the word whose bits are `w` (DESIGN CHOICE, log 2). -/
def State.withFetchWord (s : State) (nbits w : Nat) : State :=
  s.presentWord (BitVec.ofNat 32 (w % 2 ^ nbits))

end Sys2Proof.Machine
end

