-- ==== Sys2Proof/Machine/Assembler.lean ====
section
/-! DEFINITION. The assembler and the disassembler (30_encoding.md R79, R80): what a line stands for, and the text of a line.
Text is a list of characters. The conventions of the text that R79 leaves open are a DESIGN CHOICE, log 14. -/

namespace Sys2Proof.Machine

/-- The address of a named register (10_state.md R32). -/
def regNameAddr : RegName → RegAddr
  | .gainDb => 0x00
  | .note => 0x01
  | .modNote => 0x02
  | .depthDb => 0x03
  | .drive => 0x04
  | .aGainDb => 0x08
  | .aNote => 0x09
  | .aModNote => 0x0A
  | .aDepthDb => 0x0B
  | .aDrive => 0x0C
  | .oph => 0x0D
  | .status => 0x0E
  | .id => 0x0F
  | .out0 => 0x10
  | .out1 => 0x11
  | .out2 => 0x12
  | .res0 => 0x13
  | .res1 => 0x14
  | .res2 => 0x15

/-- `addr(reg)` (30_encoding.md R79). -/
def regOperandAddr : RegOperand → RegAddr
  | .name r => regNameAddr r
  | .number n => BitVec.ofInt 5 n

/-- The 16-bit pattern of an immediate: "a negative immediate is written as its 16-bit two's-complement pattern"
(30_encoding.md R79). -/
def immPattern (v : Int) : Half := BitVec.ofInt 16 v

/-- `x32[31:16]` (30_encoding.md R80). -/
def longHigh (x : Int) : Half := (BitVec.ofInt 32 x).extractLsb' 16 16

/-- `x32[15:0]` (30_encoding.md R80). -/
def longLow (x : Int) : Half := (BitVec.ofInt 32 x).extractLsb' 0 16

/-- The commands of a line (30_encoding.md R79, R80); a raw word is no command. -/
def lineCommands : SourceLine → List Instr
  | .nop => [.nop]
  | .commit => [.commit]
  | .step => [.step]
  | .clrerr => [.clrerr]
  | .wr r v => [.wr (regOperandAddr r) (immPattern v)]
  | .rd r => [.rd (regOperandAddr r)]
  | .sine v => [.sine (immPattern v)]
  | .clip v => [.clip (immPattern v)]
  | .mtof v => [.mtof (immPattern v)]
  | .dbtoa v => [.dbtoa (immPattern v)]
  | .sinex x => [.wr (regNameAddr .oph) (longHigh x), .sine (longLow x)]
  | .clipx x => [.wr (regNameAddr .oph) (longHigh x), .clip (longLow x)]
  | .rd48 .out => [.rd (regNameAddr .out0), .rd (regNameAddr .out1), .rd (regNameAddr .out2)]
  | .rd48 .res => [.rd (regNameAddr .res0), .rd (regNameAddr .res1), .rd (regNameAddr .res2)]
  | .setp r v => [.wr (regOperandAddr r) (immPattern v), .commit]
  | .setall g n m d r =>
    [.wr (regNameAddr .gainDb) (immPattern g), .wr (regNameAddr .note) (immPattern n),
      .wr (regNameAddr .modNote) (immPattern m), .wr (regNameAddr .depthDb) (immPattern d),
      .wr (regNameAddr .drive) (immPattern r), .commit]
  | .render n => List.replicate n.toNat .step
  | .rawWord _ => []

/-- The words of a line; none where an operand does not fit its field (30_encoding.md R79). -/
def assembleLine (l : SourceLine) : Option (List CmdWord) :=
  if l.wellFormed then
    match l with
    | .rawWord w => some [BitVec.ofInt 32 w]
    | l => some ((lineCommands l).map encode)
  else none

/-- A blank of the text. -/
def isBlank (c : Char) : Bool := c == ' ' || c == '\t'

/-- The text without blanks at its ends. -/
def trimBlanks (cs : List Char) : List Char := ((cs.dropWhile isBlank).reverse.dropWhile isBlank).reverse

/-- The text before a comment (30_encoding.md R79). -/
def withoutComment (cs : List Char) : List Char := cs.takeWhile (fun c => c != ';')

/-- The operands of a line, "separated by commas" (30_encoding.md R79). -/
def splitCommas : List Char → List (List Char)
  | [] => [[]]
  | c :: cs =>
    match splitCommas cs with
    | [] => [[c]]
    | p :: ps => if c == ',' then [] :: p :: ps else (c :: p) :: ps

/-- The value of a digit, decimal or hexadecimal. -/
def digitValue (c : Char) : Option Nat :=
  let n := c.toNat
  if '0'.toNat ≤ n ∧ n ≤ '9'.toNat then some (n - '0'.toNat)
  else if 'a'.toNat ≤ n ∧ n ≤ 'f'.toNat then some (n - 'a'.toNat + 10)
  else if 'A'.toNat ≤ n ∧ n ≤ 'F'.toNat then some (n - 'A'.toNat + 10)
  else none

/-- The number a text of digits stands for, most significant first. -/
def parseDigits (base : Nat) : List Char → Nat → Option Nat
  | [], acc => some acc
  | c :: cs, acc =>
    match digitValue c with
    | some d => if d < base then parseDigits base cs (acc * base + d) else none
    | none => none

/-- "Numbers are decimal or `0x` hexadecimal" (30_encoding.md R79). -/
def parseNat : List Char → Option Nat
  | [] => none
  | ['0', 'x'] => none
  | '0' :: 'x' :: cs => parseDigits 16 cs 0
  | cs => parseDigits 10 cs 0

/-- A number, with a sign before it where it is negative. -/
def parseInt : List Char → Option Int
  | '-' :: cs => (parseNat cs).map (fun n => -(n : Int))
  | cs => (parseNat cs).map (fun n => (n : Int))

/-- The register names and their spelling (10_state.md R32). -/
def regSpelling : List (List Char × RegName) :=
  [ (['G', 'A', 'I', 'N', '_', 'D', 'B'], .gainDb), (['N', 'O', 'T', 'E'], .note),
    (['M', 'O', 'D', '_', 'N', 'O', 'T', 'E'], .modNote), (['D', 'E', 'P', 'T', 'H', '_', 'D', 'B'], .depthDb),
    (['D', 'R', 'I', 'V', 'E'], .drive), (['A', '_', 'G', 'A', 'I', 'N', '_', 'D', 'B'], .aGainDb),
    (['A', '_', 'N', 'O', 'T', 'E'], .aNote), (['A', '_', 'M', 'O', 'D', '_', 'N', 'O', 'T', 'E'], .aModNote),
    (['A', '_', 'D', 'E', 'P', 'T', 'H', '_', 'D', 'B'], .aDepthDb), (['A', '_', 'D', 'R', 'I', 'V', 'E'], .aDrive),
    (['O', 'P', 'H'], .oph), (['S', 'T', 'A', 'T', 'U', 'S'], .status), (['I', 'D'], .id),
    (['O', 'U', 'T', '0'], .out0), (['O', 'U', 'T', '1'], .out1), (['O', 'U', 'T', '2'], .out2),
    (['R', 'E', 'S', '0'], .res0), (['R', 'E', 'S', '1'], .res1), (['R', 'E', 'S', '2'], .res2) ]

/-- A register operand: a name or a number (30_encoding.md R79). -/
def parseReg (cs : List Char) : Option RegOperand :=
  match regSpelling.find? (fun p => p.1 == cs) with
  | some p => some (.name p.2)
  | none => (parseInt cs).map .number

/-- The operand of `RD48` (30_encoding.md R80). -/
def parseWide (cs : List Char) : Option WideName :=
  if cs == ['O', 'U', 'T'] then some .out
  else if cs == ['R', 'E', 'S'] then some .res
  else none

/-- A mnemonic with its operands (30_encoding.md R79, R80). -/
def parseCommand (mnemonic : List Char) (ops : List (List Char)) : Option SourceLine :=
  match mnemonic, ops with
  | ['N', 'O', 'P'], [] => some .nop
  | ['C', 'O', 'M', 'M', 'I', 'T'], [] => some .commit
  | ['S', 'T', 'E', 'P'], [] => some .step
  | ['C', 'L', 'R', 'E', 'R', 'R'], [] => some .clrerr
  | ['W', 'R'], [r, v] => do return .wr (← parseReg r) (← parseInt v)
  | ['R', 'D'], [r] => do return .rd (← parseReg r)
  | ['S', 'I', 'N', 'E'], [v] => do return .sine (← parseInt v)
  | ['C', 'L', 'I', 'P'], [v] => do return .clip (← parseInt v)
  | ['M', 'T', 'O', 'F'], [v] => do return .mtof (← parseInt v)
  | ['D', 'B', 'T', 'O', 'A'], [v] => do return .dbtoa (← parseInt v)
  | ['S', 'I', 'N', 'E', 'X'], [x] => do return .sinex (← parseInt x)
  | ['C', 'L', 'I', 'P', 'X'], [x] => do return .clipx (← parseInt x)
  | ['R', 'D', '4', '8'], [r] => do return .rd48 (← parseWide r)
  | ['S', 'E', 'T', 'P'], [r, v] => do return .setp (← parseReg r) (← parseInt v)
  | ['S', 'E', 'T', 'A', 'L', 'L'], [g, n, m, d, r] => do
    return .setall (← parseInt g) (← parseInt n) (← parseInt m) (← parseInt d) (← parseInt r)
  | ['R', 'E', 'N', 'D', 'E', 'R'], [n] => do return .render (← parseInt n)
  | ['.', 'w', 'o', 'r', 'd'], [w] => do return .rawWord (← parseInt w)
  | _, _ => none

/-- The operands after the mnemonic; no text is no operand. -/
def parseOperands (cs : List Char) : List (List Char) :=
  if trimBlanks cs == [] then [] else (splitCommas cs).map trimBlanks

/-- The words of one line of text: no words for a line without a command, none where the assembler rejects it
(30_encoding.md R79). -/
def assembleText (line : List Char) : Option (List CmdWord) :=
  let cs := trimBlanks (withoutComment line)
  if cs == [] then some []
  else
    match parseCommand (cs.takeWhile (fun c => !isBlank c)) (parseOperands (cs.dropWhile (fun c => !isBlank c))) with
    | some l => assembleLine l
    | none => none

/-- A hexadecimal digit. -/
def hexDigit (n : Nat) : Char := if n < 10 then Char.ofNat ('0'.toNat + n) else Char.ofNat ('A'.toNat + (n - 10))

/-- The last `k` hexadecimal digits of a number. -/
def hexDigits : Nat → Nat → List Char
  | 0, _ => []
  | k + 1, n => hexDigits k (n / 16) ++ [hexDigit (n % 16)]

/-- A number in hexadecimal, as the spec writes one. -/
def hexText (k n : Nat) : List Char := '0' :: 'x' :: hexDigits k n

/-- A register address in decimal. -/
def addrText (a : RegAddr) : List Char :=
  if a.toNat < 10 then [hexDigit a.toNat] else [hexDigit (a.toNat / 10), hexDigit (a.toNat % 10)]

/-- A register operand: its name where it has one. -/
def regText (a : RegAddr) : List Char :=
  match regSpelling.find? (fun p => regNameAddr p.2 == a) with
  | some p => p.1
  | none => addrText a

/-- A remark in braces; the braces are the characters 123 and 125. -/
def remark (cs : List Char) : List Char := Char.ofNat 123 :: cs ++ [Char.ofNat 125]

/-- "unused fields only if they are nonzero" (30_encoding.md R79): the address. -/
def unusedAddr (w : CmdWord) : List Char :=
  if addrField w = 0 then [] else remark (['a', 'd', 'd', 'r', '='] ++ addrText (addrField w))

/-- "unused fields only if they are nonzero" (30_encoding.md R79): the immediate. -/
def unusedImm (w : CmdWord) : List Char :=
  if immField w = 0 then [] else remark (['i', 'm', 'm', '='] ++ hexText 4 (immField w).toNat)

/-- A text after a blank, where there is any. -/
def afterBlank (cs : List Char) : List Char := if cs == [] then [] else ' ' :: cs

/-- The text of a word (30_encoding.md R79). "after the mnemonic" is read as after the operands too, where the command has
any: `SINE 0x1234`, then the remark on `addr`. DESIGN CHOICE, log 14. -/
def disassemble (w : CmdWord) : List Char :=
  let imm := hexText 4 (immField w).toNat
  match decode w with
  | .illegal _ => ['.', 'w', 'o', 'r', 'd', ' '] ++ hexText 8 w.toNat
  | .command .nop => ['N', 'O', 'P'] ++ afterBlank (unusedAddr w ++ unusedImm w)
  | .command (.wr a _) => ['W', 'R', ' '] ++ regText a ++ [',', ' '] ++ imm
  | .command (.rd a) => ['R', 'D', ' '] ++ regText a ++ afterBlank (unusedImm w)
  | .command .commit => ['C', 'O', 'M', 'M', 'I', 'T'] ++ afterBlank (unusedAddr w ++ unusedImm w)
  | .command .step => ['S', 'T', 'E', 'P'] ++ afterBlank (unusedAddr w ++ unusedImm w)
  | .command (.sine _) => ['S', 'I', 'N', 'E', ' '] ++ imm ++ afterBlank (unusedAddr w)
  | .command (.clip _) => ['C', 'L', 'I', 'P', ' '] ++ imm ++ afterBlank (unusedAddr w)
  | .command (.mtof _) => ['M', 'T', 'O', 'F', ' '] ++ imm ++ afterBlank (unusedAddr w)
  | .command (.dbtoa _) => ['D', 'B', 'T', 'O', 'A', ' '] ++ imm ++ afterBlank (unusedAddr w)
  | .command .clrerr => ['C', 'L', 'R', 'E', 'R', 'R'] ++ afterBlank (unusedAddr w ++ unusedImm w)

end Sys2Proof.Machine
end

