-- ==== Sys2Proof/Machine/Ports.lean ====
section
/-! DEFINITION. FMCORE at its ports, one clock edge at a time (10_state.md R36, R39; 70_reset_and_hazards.md R400 to R402, R414,
R415, R420). The state of the commands is `State`; this layer adds the command in progress and says when a command takes
effect. Which commands take effect, and in which order, is all that reaches `State` (R420). DEDUCED, logs 6 and 7. -/

namespace Sys2Proof.Machine

/-- The input ports at one rising edge of `clk` (10_state.md R39). -/
structure PortsIn where
  rst : Bool
  cmdValid : Bool
  cmdData : CmdWord
deriving DecidableEq, Repr

/-- The output ports at one rising edge of `clk` (10_state.md R39). -/
structure PortsOut where
  cmdReady : Bool
  rspValid : Bool
  rspData : Half
  smpValid : Bool
  smpData : Wide
  err : Bool
deriving DecidableEq, Repr

/-- The block with its interface state (10_state.md R36). -/
structure PortState where
  /-- The record of the command level; its `pulse` is the pulse due in this cycle. -/
  core : State
  /-- The command in progress and the cycles it still needs. -/
  busy : Option (Nat × CmdWord)
  /-- The cycles counted so far: the model's own, read by the free value of `rsp_data` alone (DESIGN CHOICE, log 9). -/
  cycle : Nat
deriving DecidableEq, Repr

/-- The block right after reset (70_reset_and_hazards.md R400). -/
def PortState.reset : PortState := { core := State.reset, busy := none, cycle := 0 }

/-- The cycles between acceptance and completion of a word: at most `LAT_CMD_MAX`, and the same for all operands and
states (70_reset_and_hazards.md R420, R422). DESIGN CHOICE, log 6. -/
def latency (w : CmdWord) : Nat := Config.latencyFree (opField w) (rsvField w) % (Config.latCmdMax + 1)

/-- The output ports (10_state.md R39): `smp_data` is always `OUT` and `err` always `ERR`; `rsp_data` is free outside a pulse
(log 9). A pulse, like `OUT` and `ERR`, is driven at the edge at which its command completed: a reset sampled at the next
edge finds all effects of the command made, and the pulse among them (70_reset_and_hazards.md R402); that edge clears the
pulse, so none is out during reset (R400). `cmd_ready` is 0 in every cycle with `rst = 1`. DEDUCED, log 8. -/
def portsOut (p : PortState) (i : PortsIn) : PortsOut where
  cmdReady := !i.rst && p.busy.isNone
  rspValid := match p.core.pulse with
    | .rsp _ => true
    | _ => false
  rspData := match p.core.pulse with
    | .rsp d => d
    | _ => Config.idleRspData p.cycle
  smpValid := match p.core.pulse with
    | .smp _ => true
    | _ => false
  smpData := p.core.out
  err := p.core.err

/-- "a command is accepted at a rising edge where `cmd_valid = 1` and `cmd_ready = 1`" (10_state.md R39): the word
present at that edge (70_reset_and_hazards.md R415). -/
def acceptedWord (p : PortState) (i : PortsIn) : Option CmdWord :=
  if i.cmdValid && (portsOut p i).cmdReady then some i.cmdData else none

/-- The command whose effects, all of them, are made at this edge: reset at the same edge wins, and then it has none
(60_exceptions.md R311, 70_reset_and_hazards.md R402). -/
def completedWord (p : PortState) (i : PortsIn) : Option CmdWord :=
  if i.rst then none
  else match p.busy with
    | some (n, w) => if n ≤ 1 then some w else none
    | none => (acceptedWord p i).filter (fun w => latency w == 0)

/-- The command in progress after this edge: reset discards it (70_reset_and_hazards.md R402). -/
def busyAfter (p : PortState) (i : PortsIn) : Option (Nat × CmdWord) :=
  if i.rst then none
  else match p.busy with
    | some (n, w) => if n ≤ 1 then none else some (n - 1, w)
    | none => ((acceptedWord p i).filter (fun w => latency w != 0)).map (fun w => (latency w, w))

/-- What the command level sees at this edge: a reset, a command that completes, or nothing. -/
def takenInput (p : PortState) (i : PortsIn) : Option HostInput :=
  if i.rst then some .reset else (completedWord p i).map .command

/-- One rising edge of `clk`. -/
def tick (i : PortsIn) (p : PortState) : PortState where
  core := match acceptInput (takenInput p i) p.core with
    | .next s => s
    | .fault _ => p.core
    | .refused _ => p.core
  busy := busyAfter p i
  cycle := p.cycle + 1

/-- Edge after edge. -/
def runPorts : List PortsIn → PortState → PortState
  | [], p => p
  | i :: is, p => runPorts is (tick i p)

/-- What the command level sees along a run of the clock, in order. -/
def takenInputs : List PortsIn → PortState → List HostInput
  | [], _ => []
  | i :: is, p => (takenInput p i).toList ++ takenInputs is (tick i p)

/-- What the host captures from the output ports at an edge (70_reset_and_hazards.md R414). -/
def PortsOut.captured (o : PortsOut) : List Output :=
  (if o.rspValid then [.rsp o.rspData] else []) ++ (if o.smpValid then [.smp o.smpData] else [])

/-- The pulses the host captures along a run of the clock, in order. -/
def portPulses : List PortsIn → PortState → List Output
  | [], _ => []
  | i :: is, p => (portsOut p i).captured ++ portPulses is (tick i p)

/-- "An implementation is usable in real time at clock frequency `F_CLK` only if" this holds, for a latency `latStep` of
`STEP` and `others` other commands a second (70_reset_and_hazards.md R421). -/
def usableInRealTime (fClk fs latStep others : Nat) : Prop := fs * latStep + others * Config.latCmdMax ≤ fClk

end Sys2Proof.Machine
end

