-- ==== Sys2Proof/Safety.lean ====
section
/-! DEFINITION. The terms the statements use: runs of host inputs and what they emit, the legal states, and what one input
may write. -/

namespace Sys2Proof.Machine

/-- A step from `s` is safe when it answers a next state. -/
def SafeStep (s : State) : Prop := ∃ t, step s = .next t

/-- The state after one input of the host. -/
def State.after (h : HostInput) (s : State) : State :=
  match acceptInput (some h) s with
  | .next t => t
  | .fault _ => s
  | .refused _ => s

/-- The state after a run of inputs, the first of the list first (20_memory.md R58). -/
def runInputs : List HostInput → State → State
  | [], s => s
  | h :: hs, s => runInputs hs (s.after h)

/-- What a run emits, in order (20_memory.md R58). -/
def pulsesOf : List HostInput → State → List Output
  | [], _ => []
  | h :: hs, s =>
    match (s.after h).pulse with
    | .none => pulsesOf hs (s.after h)
    | o => o :: pulsesOf hs (s.after h)

/-- The samples among a list of outputs. -/
def samplesIn : List Output → List Wide
  | [] => []
  | .smp o :: os => o :: samplesIn os
  | _ :: os => samplesIn os

/-- The responses among a list of outputs. -/
def responsesIn : List Output → List Half
  | [] => []
  | .rsp d :: os => d :: responsesIn os
  | _ :: os => responsesIn os

/-- An input that is a word with this opcode, legal or not. -/
def HostInput.hasOpcode (op : BitVec 4) : HostInput → Bool
  | .command w => opField w == op
  | .reset => false

/-- An input that is this command. -/
def HostInput.isCommand (i : Instr) : HostInput → Bool
  | .command w => decode w == .command i
  | .reset => false

/-- An input that is reset. -/
def HostInput.isReset : HostInput → Bool
  | .command _ => false
  | .reset => true

/-- An input that is an illegal word with the opcode of `STEP`. -/
def HostInput.isStepError : HostInput → Bool
  | .command w => decode w == .illegal (.reservedField 0x4)
  | .reset => false

/-- The error record is legal: "`ERR = 0` implies `ECODE = 0`; `ERR = 1` implies `ECODE` in {1, 2, 3, 4}" (10_state.md R29). -/
abbrev State.ErrorRecordLegal (s : State) : Prop :=
  (s.err = false → s.ecode = 0) ∧ (s.err = true → 1 ≤ s.ecode.toNat ∧ s.ecode.toNat ≤ 4)

/-- With nothing staged since the last `COMMIT`, the two parameter sets are equal (10_state.md R29, 44_host_commands.md R208). -/
abbrev State.SnapshotCoherent (s : State) : Prop := s.pend = false → s.act = s.stg

/-- A sample pulse carries `OUT`: `smp_data` is "always equal to `OUT`" (10_state.md R39). -/
abbrev State.SamplePulseIsOut (s : State) : Prop := ∀ o, s.pulse = .smp o → o = s.out

/-- The legal states of FMCORE. -/
abbrev State.Legal (s : State) : Prop :=
  0 < s.fsHz ∧ s.ErrorRecordLegal ∧ s.SnapshotCoherent ∧ s.SamplePulseIsOut

end Sys2Proof.Machine
end

