-- ==== Sys2Proof/Certificates/Slice0/Obligations.lean ====
section
/-! DEFINITION. The statements about FMCORE for the provers. Each docstring names the rules it formalises. -/

open Sys2Proof Sys2Proof.Machine

/-! ### Encoding -/

/-- Decoding the word the assembler makes of a command gives that command, with every operand at every value
(30_encoding.md R71, R74, R78, R79). -/
def Obligations.DecodeOfEncodeIsTheCommand : Prop :=
  ∀ i : Instr, decode (encode i) = .command i

/-- What a word is depends on its opcode and its reserved field, and on nothing else (30_encoding.md R75 to R78). -/
def Obligations.WordClassByOpcodeAndReservedField : Prop :=
  ∀ w : CmdWord,
    (decode w = .illegal .illegalOpcode ↔ 10 ≤ w.toNat / 2 ^ 28) ∧
    (∀ op, decode w = .illegal (.reservedField op) ↔
      w.toNat / 2 ^ 28 < 10 ∧ w.toNat / 2 ^ 21 % 128 ≠ 0 ∧ op.toNat = w.toNat / 2 ^ 28) ∧
    ((∃ i, decode w = .command i) ↔ w.toNat / 2 ^ 28 < 10 ∧ w.toNat / 2 ^ 21 % 128 = 0)

/-- A word is a command of a row of the opcode map exactly when it matches the row under its mask (30_encoding.md R74). -/
def Obligations.CommandIffItMatchesItsRow : Prop :=
  ∀ (w : CmdWord) (j : Instr),
    (opcodeRow j).matchesWord w = true ↔ ∃ i, decode w = .command i ∧ opcodeRow i = opcodeRow j

/-- The fields a command uses become its operands, the others are ignored, and a reserved field that is not zero is
never ignored (30_encoding.md R72, R76, R78). -/
def Obligations.FieldsBecomeOperands : Prop :=
  ∀ (a : RegAddr) (v : Half),
    decode (assembleFields 0x0 0 a v) = .command .nop ∧
    decode (assembleFields 0x1 0 a v) = .command (.wr a v) ∧
    decode (assembleFields 0x2 0 a v) = .command (.rd a) ∧
    decode (assembleFields 0x3 0 a v) = .command .commit ∧
    decode (assembleFields 0x4 0 a v) = .command .step ∧
    decode (assembleFields 0x5 0 a v) = .command (.sine v) ∧
    decode (assembleFields 0x6 0 a v) = .command (.clip v) ∧
    decode (assembleFields 0x7 0 a v) = .command (.mtof v) ∧
    decode (assembleFields 0x8 0 a v) = .command (.dbtoa v) ∧
    decode (assembleFields 0x9 0 a v) = .command .clrerr ∧
    (∀ op rsv i, rsv ≠ 0 → decode (assembleFields op rsv a v) ≠ .command i)

/-- The example words: what each line assembles to, what each word is, and the codes of the two illegal ones
(30_encoding.md R81). -/
def Obligations.ExampleWords : Prop :=
  assembleLine (.wr (.name .gainDb) 0xFF00) = some [0x1000FF00] ∧ decode 0x1000FF00 = .command (.wr 0x00 0xFF00) ∧
  assembleLine (.wr (.name .note) 0x4500) = some [0x10014500] ∧ decode 0x10014500 = .command (.wr 0x01 0x4500) ∧
  assembleLine (.wr (.name .modNote) 0x7F00) = some [0x10027F00] ∧ decode 0x10027F00 = .command (.wr 0x02 0x7F00) ∧
  assembleLine (.wr (.name .depthDb) 0x3C00) = some [0x10033C00] ∧ decode 0x10033C00 = .command (.wr 0x03 0x3C00) ∧
  assembleLine (.wr (.name .drive) 0x0100) = some [0x10040100] ∧ decode 0x10040100 = .command (.wr 0x04 0x0100) ∧
  assembleLine (.wr (.name .oph) 0x4000) = some [0x100D4000] ∧ decode 0x100D4000 = .command (.wr 0x0D 0x4000) ∧
  assembleLine (.rd (.name .status)) = some [0x200E0000] ∧ decode 0x200E0000 = .command (.rd 0x0E) ∧
  assembleLine (.rd (.name .out2)) = some [0x20120000] ∧ decode 0x20120000 = .command (.rd 0x12) ∧
  assembleLine (.mtof 0x5100) = some [0x70005100] ∧ decode 0x70005100 = .command (.mtof 0x5100) ∧
  assembleLine (.dbtoa 0xEC00) = some [0x8000EC00] ∧ decode 0x8000EC00 = .command (.dbtoa 0xEC00) ∧
  decode 0x00200000 = .illegal (.reservedField 0x0) ∧ (State.reset.after (.command 0x00200000)).ecode = 2 ∧
  decode 0xA0000000 = .illegal .illegalOpcode ∧ (State.reset.after (.command 0xA0000000)).ecode = 1

/-- The words of each line of the assembler, with a register by number or by name; the lines that are rejected, an address
above 31 or an immediate above 0xFFFF or below -0x8000; and no line's word but a raw one is illegal (30_encoding.md R79, with
the addresses of 10_state.md R32). The bounds of a raw word are the model's choice (log 15). -/
def Obligations.AssembledLinesDecode : Prop :=
  assembleLine .nop = some [0x00000000] ∧ assembleLine .commit = some [0x30000000] ∧
  assembleLine .step = some [0x40000000] ∧ assembleLine .clrerr = some [0x90000000] ∧
  (∀ v : Int, -0x8000 ≤ v → v ≤ 0xFFFF →
    assembleLine (.sine v) = some [BitVec.ofInt 32 (0x50000000 + v % 0x10000)] ∧
    assembleLine (.clip v) = some [BitVec.ofInt 32 (0x60000000 + v % 0x10000)] ∧
    assembleLine (.mtof v) = some [BitVec.ofInt 32 (0x70000000 + v % 0x10000)] ∧
    assembleLine (.dbtoa v) = some [BitVec.ofInt 32 (0x80000000 + v % 0x10000)] ∧
    ∀ n : Int, 0 ≤ n → n ≤ 31 →
      assembleLine (.wr (.number n) v) = some [BitVec.ofInt 32 (0x10000000 + n * 0x10000 + v % 0x10000)]) ∧
  (∀ n : Int, 0 ≤ n → n ≤ 31 → assembleLine (.rd (.number n)) = some [BitVec.ofInt 32 (0x20000000 + n * 0x10000)]) ∧
  (∀ q ∈ ([(.gainDb, 0x00), (.note, 0x01), (.modNote, 0x02), (.depthDb, 0x03), (.drive, 0x04), (.aGainDb, 0x08),
      (.aNote, 0x09), (.aModNote, 0x0A), (.aDepthDb, 0x0B), (.aDrive, 0x0C), (.oph, 0x0D), (.status, 0x0E), (.id, 0x0F),
      (.out0, 0x10), (.out1, 0x11), (.out2, 0x12), (.res0, 0x13), (.res1, 0x14), (.res2, 0x15)] : List (RegName × Int)),
    assembleLine (.rd (.name q.1)) = assembleLine (.rd (.number q.2)) ∧
    ∀ v : Int, assembleLine (.wr (.name q.1) v) = assembleLine (.wr (.number q.2) v)) ∧
  (∀ v : Int, v < -0x8000 ∨ 0xFFFF < v →
    assembleLine (.sine v) = none ∧ assembleLine (.clip v) = none ∧ assembleLine (.mtof v) = none ∧
    assembleLine (.dbtoa v) = none ∧ ∀ r, assembleLine (.wr r v) = none) ∧
  (∀ n : Int, n < 0 ∨ 31 < n →
    assembleLine (.rd (.number n)) = none ∧ ∀ v : Int, assembleLine (.wr (.number n) v) = none) ∧
  (∀ w : Int, assembleLine (.rawWord w) = if 0 ≤ w ∧ w ≤ 0xFFFFFFFF then some [BitVec.ofInt 32 w] else none) ∧
  (∀ (l : SourceLine) (ws : List CmdWord), (∀ w, l ≠ .rawWord w) → assembleLine l = some ws →
    ∀ w ∈ ws, ∃ i, decode w = .command i)

/-- The words of each pseudo-command (30_encoding.md R80), and the operands for which the assembler rejects one: the bounds of
immediates and of register numbers are R79's, those of SINEX, CLIPX and RENDER are the model's choice (log 15). -/
def Obligations.PseudoCommandWords : Prop :=
  (∀ x : Int, assembleLine (.sinex x) =
    if -0x80000000 ≤ x ∧ x ≤ 0xFFFFFFFF then
      some [BitVec.ofInt 32 (0x100D0000 + x / 0x10000 % 0x10000), BitVec.ofInt 32 (0x50000000 + x % 0x10000)]
    else none) ∧
  (∀ x : Int, assembleLine (.clipx x) =
    if -0x80000000 ≤ x ∧ x ≤ 0xFFFFFFFF then
      some [BitVec.ofInt 32 (0x100D0000 + x / 0x10000 % 0x10000), BitVec.ofInt 32 (0x60000000 + x % 0x10000)]
    else none) ∧
  assembleLine (.rd48 .out) = some [0x20100000, 0x20110000, 0x20120000] ∧
  assembleLine (.rd48 .res) = some [0x20130000, 0x20140000, 0x20150000] ∧
  (∀ (r : RegOperand) (v : Int),
    assembleLine (.setp r v) = (assembleLine (.wr r v)).map (fun ws => ws ++ [0x30000000])) ∧
  (∀ g n m d r : Int, assembleLine (.setall g n m d r) =
    if ∀ v ∈ [g, n, m, d, r], -0x8000 ≤ v ∧ v ≤ 0xFFFF then
      some [BitVec.ofInt 32 (0x10000000 + g % 0x10000), BitVec.ofInt 32 (0x10010000 + n % 0x10000),
        BitVec.ofInt 32 (0x10020000 + m % 0x10000), BitVec.ofInt 32 (0x10030000 + d % 0x10000),
        BitVec.ofInt 32 (0x10040000 + r % 0x10000), 0x30000000]
    else none) ∧
  (∀ n : Int, assembleLine (.render n) = if 0 ≤ n then some (List.replicate n.toNat 0x40000000) else none)

/-! ### The step -/

/-- When the host's next word decodes to a command, the step is that command's meaning, run with the word taken from the
host's inputs; when it is illegal, the step records that error (20_memory.md R58, 44_host_commands.md R200). The list of
inputs is the model's own (log 2). -/
def Obligations.StepRunsTheDecodedCommand : Prop :=
  ∀ (s : State) (w : CmdWord) (rest : List HostInput), s.input = .command w :: rest →
    step s = acceptWord w { s with input := rest } ∧
    (∀ i, decode w = .command i → step s = exec i { s with input := rest }) ∧
    (∀ e, decode w = .illegal e → step s = .next (State.illegalWord e { s with input := rest }))

/-- An illegal word is recorded, changes nothing else, and emits what the rules say (30_encoding.md R75, R76). -/
def Obligations.IllegalWordIsRecorded : Prop :=
  ∀ (s : State) (w : CmdWord),
    (10 ≤ w.toNat / 2 ^ 28 →
      acceptWord w s = .next { s with err := true, ecode := if s.err then s.ecode else 1, pulse := .none }) ∧
    (w.toNat / 2 ^ 28 < 10 → w.toNat / 2 ^ 21 % 128 ≠ 0 →
      acceptWord w s = .next { s with
        err := true, ecode := if s.err then s.ecode else 2,
        pulse := if w.toNat / 2 ^ 28 = 2 then .rsp 0 else if w.toNat / 2 ^ 28 = 4 then .smp s.out else .none })

/-- With nothing presented no state changes and no pulse is due (60_exceptions.md R334, 70_reset_and_hazards.md R414); that a
step then is one such cycle is the model's choice (log 4). -/
def Obligations.StepIdlesWithoutInput : Prop :=
  ∀ s : State, s.input = [] → step s = .next { s with pulse := .none }

/-- Reset between two commands replaces the state by the reset state; the sample rate is configuration and stays
(70_reset_and_hazards.md R400, R402). What the host presents next is the host's (log 5). -/
def Obligations.ResetReplacesTheState : Prop :=
  ∀ (s : State) (rest : List HostInput), s.input = .reset :: rest →
    step s = .next { State.resetAt s.fsHz with input := rest }

/-- After reset every field of the record is zero (10_state.md R37). -/
def Obligations.EveryFieldIsZeroAfterReset : Prop :=
  ∀ fs : Nat,
    (State.resetAt fs).phc = 0 ∧ (State.resetAt fs).phm = 0 ∧
    (∀ i, (State.resetAt fs).stg.get i = 0 ∧ (State.resetAt fs).act.get i = 0) ∧
    (State.resetAt fs).oph = 0 ∧ (State.resetAt fs).out = 0 ∧ (State.resetAt fs).res = 0 ∧
    (State.resetAt fs).pend = false ∧ (State.resetAt fs).err = false ∧ (State.resetAt fs).ecode = 0

/-- No step ends in a fault or a refusal: every command and every illegal word has a next state (44_host_commands.md R200,
60_exceptions.md R300). That the model has no fault is log 12. -/
def Obligations.EveryStepIsSafe : Prop := ∀ s : State, SafeStep s

/-- The host's interface runs the inputs one after the other, each on the state the one before left (20_memory.md R58). That
the state holds the inputs is the model's choice (log 2). -/
def Obligations.InputsRunInOrder : Prop :=
  ∀ (hs : List HostInput) (s : State),
    Host.Core.run Sys2Proof.core hs.length { s with input := hs } = .next { runInputs hs s with input := [] }

/-! ### Results of the commands -/

/-- `NOP` changes no state and emits nothing, and every word `0x000xxxxx` with bits 27:21 zero is a `NOP`
(44_host_commands.md R215). -/
def Obligations.NopChangesNothing : Prop :=
  (∀ s : State, exec .nop s = .next { s with pulse := .none }) ∧
  (∀ w : CmdWord, w.toNat / 2 ^ 21 = 0 → decode w = .command .nop)

/-- `WR`, at every address: the staging registers and PEND, OPH, and the errors of unmapped and read-only addresses
(44_host_commands.md R201, R202, R203). -/
def Obligations.WrResult : Prop :=
  ∀ (s : State) (v : Half),
    exec (.wr 0x00 v) s = .next { s with stg := { s.stg with gainDb := v }, pend := true, pulse := .none } ∧
    exec (.wr 0x01 v) s = .next { s with stg := { s.stg with note := v }, pend := true, pulse := .none } ∧
    exec (.wr 0x02 v) s = .next { s with stg := { s.stg with modNote := v }, pend := true, pulse := .none } ∧
    exec (.wr 0x03 v) s = .next { s with stg := { s.stg with depthDb := v }, pend := true, pulse := .none } ∧
    exec (.wr 0x04 v) s = .next { s with stg := { s.stg with drive := v }, pend := true, pulse := .none } ∧
    exec (.wr 0x0D v) s = .next { s with oph := v, pulse := .none } ∧
    (∀ a : RegAddr, (5 ≤ a.toNat ∧ a.toNat ≤ 7) ∨ 0x16 ≤ a.toNat →
      exec (.wr a v) s = .next { s with
        err := true, ecode := if s.err then s.ecode else 3, pulse := .none }) ∧
    (∀ a : RegAddr, (0x08 ≤ a.toNat ∧ a.toNat ≤ 0x0C) ∨ (0x0E ≤ a.toNat ∧ a.toNat ≤ 0x15) →
      exec (.wr a v) s = .next { s with
        err := true, ecode := if s.err then s.ecode else 4, pulse := .none }) ∧
    (∀ a : RegAddr, (encode (.wr a v)).toNat = 0x10000000 + a.toNat * 2 ^ 16 + v.toNat)

/-- `RD`, at every address: one response with the register's value, and the error of an unmapped address
(44_host_commands.md R204, R205, R206). -/
def Obligations.RdResult : Prop :=
  ∀ s : State,
    exec (.rd 0x00) s = .next { s with pulse := .rsp s.stg.gainDb } ∧
    exec (.rd 0x01) s = .next { s with pulse := .rsp s.stg.note } ∧
    exec (.rd 0x02) s = .next { s with pulse := .rsp s.stg.modNote } ∧
    exec (.rd 0x03) s = .next { s with pulse := .rsp s.stg.depthDb } ∧
    exec (.rd 0x04) s = .next { s with pulse := .rsp s.stg.drive } ∧
    exec (.rd 0x08) s = .next { s with pulse := .rsp s.act.gainDb } ∧
    exec (.rd 0x09) s = .next { s with pulse := .rsp s.act.note } ∧
    exec (.rd 0x0A) s = .next { s with pulse := .rsp s.act.modNote } ∧
    exec (.rd 0x0B) s = .next { s with pulse := .rsp s.act.depthDb } ∧
    exec (.rd 0x0C) s = .next { s with pulse := .rsp s.act.drive } ∧
    exec (.rd 0x0D) s = .next { s with pulse := .rsp s.oph } ∧
    exec (.rd 0x0E) s = .next { s with
      pulse := .rsp (BitVec.ofNat 16 (s.pend.toNat + 2 * s.err.toNat + 16 * s.ecode.toNat)) } ∧
    exec (.rd 0x0F) s = .next { s with pulse := .rsp 0x464D } ∧
    exec (.rd 0x10) s = .next { s with pulse := .rsp (s.out.extractLsb' 0 16) } ∧
    exec (.rd 0x11) s = .next { s with pulse := .rsp (s.out.extractLsb' 16 16) } ∧
    exec (.rd 0x12) s = .next { s with pulse := .rsp (s.out.extractLsb' 32 16) } ∧
    exec (.rd 0x13) s = .next { s with pulse := .rsp (s.res.extractLsb' 0 16) } ∧
    exec (.rd 0x14) s = .next { s with pulse := .rsp (s.res.extractLsb' 16 16) } ∧
    exec (.rd 0x15) s = .next { s with pulse := .rsp (s.res.extractLsb' 32 16) } ∧
    (∀ a : RegAddr, (5 ≤ a.toNat ∧ a.toNat ≤ 7) ∨ 0x16 ≤ a.toNat →
      exec (.rd a) s = .next { s with
        err := true, ecode := if s.err then s.ecode else 3, pulse := .rsp 0 }) ∧
    (∀ a : RegAddr, (encode (.rd a)).toNat = 0x20000000 + a.toNat * 2 ^ 16) ∧
    (∀ (a : RegAddr) (w : CmdWord), w.toNat / 2 ^ 16 = 0x2000 + a.toNat → decode w = .command (.rd a))

/-- `COMMIT` copies the five staging registers to the active ones and clears PEND, and with PEND clear it changes nothing
in a state where nothing is staged (44_host_commands.md R208). -/
def Obligations.CommitResult : Prop :=
  (∀ s : State, exec .commit s = .next { s with act := s.stg, pend := false, pulse := .none }) ∧
  (∀ s : State, s.SnapshotCoherent → s.pend = false → exec .commit s = .next { s with pulse := .none }) ∧
  encode .commit = 0x30000000 ∧
  (∀ w : CmdWord, w.toNat / 2 ^ 21 = 0x3 * 2 ^ 7 → decode w = .command .commit)

/-- `STEP` in the order of the rule's pseudocode: the two phases, OUT and the sample pulse are written, and nothing else
(43_engine_step.md R180). -/
def Obligations.StepResult : Prop :=
  (∀ (s : State) (ma oa md od ms x shaped delta cs out : Int) (cinc0 minc cinc : Phase),
    dbtoa s.act.gainDb = (ma, oa) →
    mtof s.fsHz s.act.note = cinc0 →
    dbtoa s.act.depthDb = (md, od) →
    mtof s.fsHz s.act.modNote = minc →
    ms = sine s.phm →
    x = (s.act.drive.toInt * ms) / 2 ^ 8 →
    shaped = clip x →
    delta = rshr ((2 ^ 49 + (s.fsHz : Int)) / (2 * s.fsHz) * md * shaped) (55 - od) →
    cinc = BitVec.ofInt 32 (cinc0.toNat + delta) →
    cs = sine s.phc →
    out = rshr (cs * ma) (16 - oa) →
    exec .step s = .next { s with
      phm := s.phm + minc, phc := s.phc + cinc, out := BitVec.ofInt 48 out, pulse := .smp (BitVec.ofInt 48 out) }) ∧
  encode .step = 0x40000000 ∧
  (∀ w : CmdWord, w.toNat / 2 ^ 21 = 0x4 * 2 ^ 7 → decode w = .command .step) ∧
  (∀ (s : State) (w : CmdWord), w.toNat / 2 ^ 28 = 0x4 → w.toNat / 2 ^ 21 ≠ 0x4 * 2 ^ 7 →
    acceptWord w s = .next { s with
      err := true, ecode := if s.err then s.ecode else 2, pulse := .smp s.out })

/-- `SINE` evaluates the sine of the phase pattern whose high half is OPH, and writes RES alone; RES, read as signed, is
that sine, in [-8391003, 8391002] (44_host_commands.md R212, 30_encoding.md R73). -/
def Obligations.SineResult : Prop :=
  (∀ (s : State) (v : Half),
    ∃ r : Wide, exec (.sine v) s = .next { s with res := r, pulse := .none } ∧ r.toInt = sine (s.oph ++ v) ∧
      -8391003 ≤ r.toInt ∧ r.toInt ≤ 8391002) ∧
  (∀ w : CmdWord, w.toNat / 2 ^ 21 = 0x5 * 2 ^ 7 → decode w = .command (.sine (w.extractLsb' 0 16)))

/-- `CLIP` evaluates the clipper at the signed number whose high half is OPH, and writes RES alone; RES, read as signed,
is that value, in [-2^23, 2^23] (44_host_commands.md R213, 30_encoding.md R73). -/
def Obligations.ClipResult : Prop :=
  (∀ (s : State) (v : Half),
    ∃ r : Wide, exec (.clip v) s = .next { s with res := r, pulse := .none } ∧
      r.toInt = clip (s.oph ++ v : BitVec 32).toInt ∧ -2 ^ 23 ≤ r.toInt ∧ r.toInt ≤ 2 ^ 23) ∧
  (∀ w : CmdWord, w.toNat / 2 ^ 21 = 0x6 * 2 ^ 7 → decode w = .command (.clip (w.extractLsb' 0 16)))

/-- `MTOF` writes the increment of its note code to RES, the upper 16 bits zero, and nothing else
(44_host_commands.md R214). -/
def Obligations.MtofResult : Prop :=
  (∀ (s : State) (v : Half),
    ∃ r : Wide, exec (.mtof v) s = .next { s with res := r, pulse := .none } ∧
      r.extractLsb' 0 32 = mtof s.fsHz v ∧ r.extractLsb' 32 16 = 0) ∧
  (∀ w : CmdWord, w.toNat / 2 ^ 21 = 0x7 * 2 ^ 7 → decode w = .command (.mtof (w.extractLsb' 0 16)))

/-- `DBTOA` writes the mantissa to bits 16:0 and the octave to bits 31:24 of RES, the other bits zero, and nothing else
(44_host_commands.md R217). -/
def Obligations.DbtoaResult : Prop :=
  (∀ (s : State) (v : Half),
    ∃ r : Wide, exec (.dbtoa v) s = .next { s with res := r, pulse := .none } ∧
      ((r.extractLsb' 0 17).toNat : Int) = (dbtoa v).1 ∧ r.extractLsb' 17 7 = 0 ∧
      (r.extractLsb' 24 8).toInt = (dbtoa v).2 ∧ r.extractLsb' 32 16 = 0 ∧
      65536 ≤ (dbtoa v).1 ∧ (dbtoa v).1 ≤ 131071 ∧ -22 ≤ (dbtoa v).2 ∧ (dbtoa v).2 ≤ 21) ∧
  (∀ w : CmdWord, w.toNat / 2 ^ 21 = 0x8 * 2 ^ 7 → decode w = .command (.dbtoa (w.extractLsb' 0 16)))

/-- `CLRERR` clears ERR and ECODE and nothing else; with ERR clear it changes nothing in a state whose error record is
legal; a `CLRERR` word with a reserved field that is not zero is itself an error and does not clear
(44_host_commands.md R216). -/
def Obligations.ClrerrResult : Prop :=
  (∀ s : State, exec .clrerr s = .next { s with err := false, ecode := 0, pulse := .none }) ∧
  (∀ s : State, s.ErrorRecordLegal → s.err = false → exec .clrerr s = .next { s with pulse := .none }) ∧
  encode .clrerr = 0x90000000 ∧
  (∀ w : CmdWord, w.toNat / 2 ^ 21 = 0x9 * 2 ^ 7 → decode w = .command .clrerr) ∧
  (∀ (s : State) (w : CmdWord), w.toNat / 2 ^ 28 = 0x9 → w.toNat / 2 ^ 21 ≠ 0x9 * 2 ^ 7 →
    acceptWord w s = .next { s with err := true, ecode := if s.err then s.ecode else 2, pulse := .none })

/-! ### The functions -/

/-- PhaseWrap is addition modulo 2^32: the new phase differs from the sum by a whole number of cycles and is in [-1, 1)
(40_phase_accumulator.md R101). -/
def Obligations.PhaseAddWrapsWholeCycles : Prop :=
  ∀ p inc : Phase,
    (phaseAdd p inc).toNat = (p.toNat + inc.toNat) % 2 ^ 32 ∧
    (∃ k : Int, (phaseAdd p inc).toInt = p.toInt + inc.toInt - k * 2 ^ 32) ∧
    -1 ≤ signedQ 31 (phaseAdd p inc) ∧ signedQ 31 (phaseAdd p inc) < 1

/-- The sine reads the top 24 bits of the phase (40_phase_accumulator.md R104). -/
def Obligations.SineReadsTheTopBits : Prop :=
  (∀ p : Phase, sineArg p = p.toInt / 2 ^ 8 ∧ -2 ^ 23 ≤ sineArg p ∧ sineArg p ≤ 2 ^ 23 - 1) ∧
  (∀ p q : Phase, p.toNat / 256 = q.toNat / 256 → sine p = sine q)

/-- The values of `nn` and `t` in the Horner chain stay in the ranges R106 gives (40_phase_accumulator.md R106). -/
def Obligations.HornerChainRanges : Prop :=
  ∀ p : Phase,
    let nn := sineSquare (sineArg p)
    0 ≤ nn ∧ nn ≤ 2 ^ 23 ∧
    16734168 ≤ hornerC5 nn ∧ hornerC5 nn ≤ 20372901 ∧
    -43066296 ≤ hornerC3 nn ∧ hornerC3 nn ≤ -26332128 ∧
    0 ≤ hornerC1 nn ∧ hornerC1 nn ≤ 26332128

/-- The sine is in [-8391003, 8391002], both ends are taken, and so it fits in 25 bits signed (40_phase_accumulator.md R106,
43_engine_step.md R183). -/
def Obligations.SineFitsTwentyFiveBits : Prop :=
  (∀ p : Phase, -8391003 ≤ sine p ∧ sine p ≤ 8391002 ∧ -2 ^ 24 ≤ sine p ∧ sine p < 2 ^ 24) ∧
  sine 0xC0000000 = -8391003 ∧ sine 0x40000000 = 8391002

/-- "Odd symmetry is exact up to one LSB" (40_phase_accumulator.md R106). -/
def Obligations.SineIsOddUpToOneLsb : Prop :=
  ∀ n : Int, -2 ^ 23 + 1 ≤ n → n ≤ 2 ^ 23 - 1 → sinePoly n + sinePoly (-n) = 0 ∨ sinePoly n + sinePoly (-n) = -1

/-- The output of the clipper is in [-1, 1] for every input (41_soft_clipper.md R131). -/
def Obligations.ClipIsBounded : Prop :=
  ∀ x : Int, -2 ^ 23 ≤ clip x ∧ clip x ≤ 2 ^ 23

/-- The clipper is non-decreasing (41_soft_clipper.md R132). -/
def Obligations.ClipIsMonotone : Prop := ∀ x : Int, clip x ≤ clip (x + 1)

/-- The clipper has no step at ±1 (41_soft_clipper.md R133). -/
def Obligations.ClipHasNoStepAtOne : Prop :=
  clip (2 ^ 23 - 1) = 2 ^ 23 ∧ clip (2 ^ 23) = 2 ^ 23 ∧ clip (-2 ^ 23 + 1) = -2 ^ 23 ∧ clip (-2 ^ 23) = -2 ^ 23

/-- Inside (-1, 1) the clipper is within one LSB of the exact cubic, and odd up to one LSB (41_soft_clipper.md R134). -/
def Obligations.ClipIsTheCubicWithinOneLsb : Prop :=
  ∀ x : Int, -2 ^ 23 + 1 ≤ x → x ≤ 2 ^ 23 - 1 →
    |(clip x : Rat) - (3 * x * 2 ^ 46 - x ^ 3) / 2 ^ 47| < 1 ∧
    (clip x + clip (-x) = 0 ∨ clip x + clip (-x) = -1)

/-- The values of the note mapping stay in the ranges R156 gives, and at 48000 Hz the increment needs no reduction
(42_parameter_mapping.md R156). -/
def Obligations.NoteMappingRanges : Prop :=
  ∀ c : Half,
    -50432 ≤ noteOffset c ∧ noteOffset c ≤ 15103 ∧
    -197 ≤ noteSemitones c ∧ noteSemitones c ≤ 58 ∧
    noteFraction c ≤ 255 ∧ -17 ≤ noteOctave c ∧ noteOctave c ≤ 4 ∧ noteSemitone c ≤ 11 ∧
    noteOffset c = (12 * noteOctave c + noteSemitone c) * 256 + noteFraction c ∧
    65536 ≤ noteMantissa c ∧ noteMantissa c ≤ 131041 ∧
    0 ≤ noteIncrement 48000 c ∧ noteIncrement 48000 c < 2 ^ 31 ∧
    ((mtof 48000 c).toNat : Int) = noteIncrement 48000 c

/-- One octave higher the increment is twice the first, or differs from twice the first by one LSB
(42_parameter_mapping.md R167). -/
def Obligations.OctaveLaw : Prop :=
  ∀ (fs : Nat) (c c' : Half), c'.toInt = c.toInt + 12 * 256 →
    noteSemitone c' = noteSemitone c ∧ noteFraction c' = noteFraction c ∧ noteMantissa c' = noteMantissa c ∧
    noteOctave c' = noteOctave c + 1 ∧
    mtof fs c' = BitVec.ofInt 32 (rshr (ka4 fs * noteMantissa c) (31 - noteOctave c)) ∧
    (mtof fs c' = mtof fs c + mtof fs c ∨ mtof fs c' = mtof fs c + mtof fs c + 1 ∨
      mtof fs c' = mtof fs c + mtof fs c - 1)

/-- The source's reference notes at 48000 Hz (42_parameter_mapping.md R158). -/
def Obligations.ReferenceNotes : Prop :=
  (mtof 48000 0x4500).toNat = 39370534 ∧ (mtof 48000 0x5100).toNat = 78741067 ∧ (mtof 48000 0x3900).toNat = 19685267

/-- The values of the decibel mapping stay in the ranges R160 gives, and the pair is normalised
(42_parameter_mapping.md R160). -/
def Obligations.DecibelMappingRanges : Prop :=
  ∀ c : Half,
    -5707038720 ≤ decibelOctaves c ∧ decibelOctaves c ≤ 5706864555 ∧
    -22 ≤ (dbtoa c).2 ∧ (dbtoa c).2 ≤ 21 ∧ decibelHigh c ≤ 255 ∧ decibelLow c ≤ 255 ∧
    65536 ≤ (dbtoa c).1 ∧ (dbtoa c).1 ≤ 131071

/-- Negative codes give a negative octave and the others none; 0 dB is exactly 1 and 20 dB exactly 10
(42_parameter_mapping.md R162). -/
def Obligations.DecibelSignIsOctaveSign : Prop :=
  (∀ c : Half, (dbtoa c).2 < 0 ↔ c.toInt < 0) ∧
  dbtoa 0x0000 = (65536, 0) ∧ dbtoa 0x1400 = (81920, 3) ∧ dbtoa 0xEC00 = (104856, -4)

/-! ### The engine -/

/-- The output and the new phases of a `STEP` are a function of the phases, the active parameters and the sample rate
(43_engine_step.md R190). -/
def Obligations.StepIsAFunctionOfPhasesAndParameters : Prop :=
  ∀ s s' : State, s.phm = s'.phm → s.phc = s'.phc → s.act = s'.act → s.fsHz = s'.fsHz →
    ∃ t, exec .step s = .next t ∧
      exec .step s' = .next { s' with phm := t.phm, phc := t.phc, out := t.out, pulse := t.pulse }

/-- A `STEP` at carrier phase 0 outputs 0 whatever the parameters are: the sample is the sine of the phase before the
update (40_phase_accumulator.md R103; conflict C1). -/
def Obligations.StepFromPhaseZeroOutputsZero : Prop :=
  ∀ s : State, s.phc = 0 → ∃ t, exec .step s = .next t ∧ t.out = 0 ∧ t.pulse = .smp 0

/-- OUT holds the output exactly: the reduction to 48 bits never changes its value (43_engine_step.md R188, R191). -/
def Obligations.OutputIsNeverWrapped : Prop :=
  ∀ s : State, ∃ t, exec .step s = .next t ∧
    t.out.toInt = rshr (sine s.phc * (dbtoa s.act.gainDb).1) (16 - (dbtoa s.act.gainDb).2)

/-- At 48000 Hz the modulation of the increment is at most 2.25e11, which is below 2^38 (43_engine_step.md R186). -/
def Obligations.ModulationIsBounded : Prop :=
  ∀ (depth : Half) (x : Int), |modulationDelta 48000 depth (clip x)| ≤ 225000000000

/-- With drive 0 the engine is a pure tone: the k-th `STEP` from carrier phase 0 outputs the sine of k increments times
the gain (43_engine_step.md R196). -/
def Obligations.DriveZeroIsAPureTone : Prop :=
  ∀ (s : State) (n : Nat), s.phc = 0 → s.act.drive = 0 →
    samplesIn (pulsesOf (List.replicate n (.command 0x40000000)) s) =
      (List.range n).map (fun k : Nat =>
        BitVec.ofInt 48 (rshr (sine (BitVec.ofNat 32 (k * (mtof s.fsHz s.act.note).toNat)) * (dbtoa s.act.gainDb).1)
          (16 - (dbtoa s.act.gainDb).2)))

/-- In a run without COMMIT, reset and erroneous STEP, the samples are those of as many STEPs with nothing between
(43_engine_step.md R194). -/
def Obligations.BlockEquivalence : Prop :=
  ∀ (hs : List HostInput) (s : State),
    (∀ h ∈ hs, h.isReset = false ∧ h.isCommand .commit = false ∧ h.isStepError = false) →
    samplesIn (pulsesOf hs s) =
      samplesIn (pulsesOf (List.replicate (hs.countP (fun h => h.isCommand .step)) (.command 0x40000000)) s)

/-! ### The whole machine -/

/-- Each register changes only by the commands the spec lets write it, or by reset: the phases and OUT by STEP, ACT by
COMMIT, STG and OPH by WR, RES by the function units, PEND by WR and COMMIT (10_state.md R21, R22, R24 to R29), ERR and ECODE
by CLRERR, by an illegal word, by a WR of an unmapped or read-only address and by a RD of an unmapped one
(60_exceptions.md R301, R302). The sample rate and the inputs are the model's own fields (logs 1 and 2). -/
def Obligations.OnlyTheNamedCommandsWrite : Prop :=
  ∀ (s t : State) (h : HostInput) (rest : List HostInput), s.input = h :: rest → step s = .next t → h.isReset = false →
    t.fsHz = s.fsHz ∧ t.input = rest ∧
    (t.phc ≠ s.phc ∨ t.phm ≠ s.phm ∨ t.out ≠ s.out → h.isCommand .step = true) ∧
    (t.act ≠ s.act → h.isCommand .commit = true) ∧
    (t.stg ≠ s.stg → ∃ a v, a.toNat ≤ 4 ∧ h.isCommand (.wr a v) = true) ∧
    (t.oph ≠ s.oph → ∃ v, h.isCommand (.wr 0x0D v) = true) ∧
    (t.res ≠ s.res → ∃ v, h.isCommand (.sine v) = true ∨ h.isCommand (.clip v) = true ∨
      h.isCommand (.mtof v) = true ∨ h.isCommand (.dbtoa v) = true) ∧
    (t.pend ≠ s.pend → h.isCommand .commit = true ∨ ∃ a v, a.toNat ≤ 4 ∧ h.isCommand (.wr a v) = true) ∧
    (t.err ≠ s.err ∨ t.ecode ≠ s.ecode →
      h.isCommand .clrerr = true ∨
      (∃ w e, h = .command w ∧ decode w = .illegal e) ∨
      (∃ a v, ¬ (a.toNat ≤ 4 ∨ a.toNat = 0x0D) ∧ h.isCommand (.wr a v) = true) ∨
      (∃ a, ((5 ≤ a.toNat ∧ a.toNat ≤ 7) ∨ 0x16 ≤ a.toNat) ∧ h.isCommand (.rd a) = true))

/-- ECODE keeps the first error: once ERR is set, only CLRERR and reset change ERR or ECODE (60_exceptions.md R302). -/
def Obligations.FirstErrorIsKept : Prop :=
  ∀ (s t : State), step s = .next t → s.err = true →
    (∀ h, s.input.head? = some h → h.isReset = false ∧ h.isCommand .clrerr = false) →
    t.err = true ∧ t.ecode = s.ecode

/-- A read of a mapped address changes no state, and a write done twice leaves what it leaves done once
(20_memory.md R56). -/
def Obligations.ReadsArePureAndWritesIdempotent : Prop :=
  (∀ (s : State) (a : RegAddr), ¬ ((5 ≤ a.toNat ∧ a.toNat ≤ 7) ∨ 0x16 ≤ a.toNat) →
    ∃ d, exec (.rd a) s = .next { s with pulse := .rsp d }) ∧
  (∀ (s : State) (a : RegAddr) (v : Half), ∃ t, exec (.wr a v) s = .next t ∧ exec (.wr a v) t = .next t)

/-- What is written to a staging register or to OPH is read back, whatever other commands stand between
(44_host_commands.md R207). -/
def Obligations.WriteThenReadRoundTrip : Prop :=
  ∀ (s : State) (a : RegAddr) (v : Half) (hs : List HostInput), a.toNat ≤ 4 ∨ a.toNat = 0x0D →
    (∀ h ∈ hs, h.isReset = false ∧ ∀ v', h.isCommand (.wr a v') = false) →
    ∃ t, exec (.rd a) (runInputs (.command (encode (.wr a v)) :: hs) s) = .next t ∧ t.pulse = .rsp v

/-- The three parts of OUT put together are OUT, the lowest address the least significant (10_state.md R27,
20_memory.md R53). -/
def Obligations.OutPartsAreOut : Prop :=
  ∀ s : State, ∃ d0 d1 d2 : Half,
    exec (.rd 0x10) s = .next { s with pulse := .rsp d0 } ∧
    exec (.rd 0x11) s = .next { s with pulse := .rsp d1 } ∧
    exec (.rd 0x12) s = .next { s with pulse := .rsp d2 } ∧
    s.out = d2 ++ d1 ++ d0

/-- STATUS holds PEND, ERR and ECODE in their places, and its reserved bits read 0 (10_state.md R29). -/
def Obligations.StatusLayout : Prop :=
  ∀ s : State, ∃ d : Half, exec (.rd 0x0E) s = .next { s with pulse := .rsp d } ∧
    d.getLsbD 0 = s.pend ∧ d.getLsbD 1 = s.err ∧ d.extractLsb' 2 2 = 0 ∧
    d.extractLsb' 4 4 = s.ecode ∧ d.extractLsb' 8 8 = 0

/-- The active parameters between two COMMITs are the staging values at the first one (20_memory.md R60). -/
def Obligations.SnapshotBetweenCommits : Prop :=
  ∀ (s : State) (w : CmdWord) (hs : List HostInput), decode w = .command .commit →
    (∀ h ∈ hs, h.isReset = false ∧ h.isCommand .commit = false) →
    (runInputs (.command w :: hs) s).act = s.stg

/-- `SETALL` sets and publishes all five parameters (30_encoding.md R80, 44_host_commands.md R218, R219). -/
def Obligations.SetallPublishesAllFive : Prop :=
  ∀ (s : State) (g n m d r : Int), (SourceLine.setall g n m d r).wellFormed = true →
    ∃ ws, assembleLine (.setall g n m d r) = some ws ∧
      runInputs (ws.map .command) s = { s with
        stg := ⟨BitVec.ofInt 16 g, BitVec.ofInt 16 n, BitVec.ofInt 16 m, BitVec.ofInt 16 d, BitVec.ofInt 16 r⟩
        act := ⟨BitVec.ofInt 16 g, BitVec.ofInt 16 n, BitVec.ofInt 16 m, BitVec.ofInt 16 d, BitVec.ofInt 16 r⟩
        pend := false
        pulse := .none }

/-- Every `RD`-opcode word is answered by one response and every `STEP`-opcode word by one sample, whether or not it
erred (60_exceptions.md R303). -/
def Obligations.OneResponsePerReadOneSamplePerStep : Prop :=
  ∀ (hs : List HostInput) (s : State),
    (responsesIn (pulsesOf hs s)).length = hs.countP (HostInput.hasOpcode 0x2) ∧
    (samplesIn (pulsesOf hs s)).length = hs.countP (HostInput.hasOpcode 0x4)

/-- Every step keeps the legal states: the error record, the snapshot, the sample pulse and the sample rate
(10_state.md R29, R39; 44_host_commands.md R208; 00_scope.md R5). The sample rate and the pulse are the model's own fields
(logs 1 and 3). -/
def Obligations.EveryStepKeepsLegalStates : Prop :=
  ∀ s t : State, s.Legal → step s = .next t → t.Legal

/-- The reset state is legal for every positive sample rate (10_state.md R29, R37; logs 1 and 3). -/
def Obligations.ResetIsLegal : Prop :=
  State.reset.Legal ∧ ∀ fs : Nat, 0 < fs → (State.resetAt fs).Legal

/-! ### The ports -/

/-- Reset at a clock edge, from any state of the block: the record is zero, the command in progress or completing there is
discarded with all its effects, nothing is accepted, no pulse is out in the cycle after, and the block is ready in the first
cycle without reset (70_reset_and_hazards.md R400 to R402; 60_exceptions.md R311). That the clock level is a layer of its
own, and the pulse in the cycle that the edge ends, are the model's choices (logs 5, 6 and 8). -/
def Obligations.ResetEdge : Prop :=
  ∀ (p : PortState) (i j : PortsIn), i.rst = true →
    (portsOut p i).cmdReady = false ∧ completedWord p i = none ∧
    (tick i p).core = { State.resetAt p.core.fsHz with input := p.core.input } ∧ (tick i p).busy = none ∧
    (portsOut (tick i p) j).rspValid = false ∧ (portsOut (tick i p) j).smpValid = false ∧
    (portsOut (tick i p) j).smpData = 0 ∧ (portsOut (tick i p) j).err = false ∧
    (j.rst = false → (portsOut (tick i p) j).cmdReady = true)

/-- At most one of the two pulses is out in a cycle, `smp_data` is OUT and `err` is ERR in every cycle
(70_reset_and_hazards.md R414, 10_state.md R39, 60_exceptions.md R310; the clock-level model is logs 6 and 7). -/
def Obligations.PortsShowOneKindOfPulse : Prop :=
  ∀ (p : PortState) (i : PortsIn),
    ¬ ((portsOut p i).rspValid = true ∧ (portsOut p i).smpValid = true) ∧
    (portsOut p i).smpData = p.core.out ∧ (portsOut p i).err = p.core.err

/-- The clocked block is the command-level machine: along any run of the clock its record is that of the commands and
resets that took effect, and what the host captures from the ports, up to and with the edge after the run, is the pulse due
at the start and then the pulses of exactly those commands, in their order. So a command that takes effect shows its pulse,
whatever `rst` is at the next edge, and one that a reset discards shows none: no command completes partly
(70_reset_and_hazards.md R402, R414, R420; 20_memory.md R58). Which edge they appear at is the model's choice (logs 6, 7
and 8). -/
def Obligations.PortsRefineTheCommandLevel : Prop :=
  ∀ (is : List PortsIn) (i : PortsIn) (p : PortState), p.core.SamplePulseIsOut →
    (runPorts is p).core = { runInputs (takenInputs is p) p.core with pulse := (runPorts is p).core.pulse } ∧
    portPulses (is ++ [i]) p =
      (match p.core.pulse with
        | .none => []
        | o => [o]) ++ pulsesOf (takenInputs is p) p.core

/-- An accepted command completes within LAT_CMD_MAX cycles whatever its operands, and is the next thing the command
level sees (70_reset_and_hazards.md R415, R420, R422). The latency is a free value of the model (log 6). -/
def Obligations.AcceptedCommandCompletesInTime : Prop :=
  ∀ (p : PortState) (i : PortsIn) (is : List PortsIn) (w : CmdWord),
    acceptedWord p i = some w → (∀ j ∈ is, j.rst = false) → Config.latCmdMax ≤ is.length →
    ∃ rest, takenInputs (i :: is) p = .command w :: rest

/-- No command is accepted while another is in progress or during reset, and the word accepted is the one present at the
accepting edge (10_state.md R36, R39; 70_reset_and_hazards.md R400, R415; logs 6 and 8). -/
def Obligations.AcceptanceNeedsReadyAndValid : Prop :=
  ∀ (p : PortState) (i : PortsIn) (w : CmdWord),
    acceptedWord p i = some w ↔ i.cmdValid = true ∧ i.rst = false ∧ p.busy = none ∧ w = i.cmdData
end

