-- ==== Sys2Proof/Laws/Arith.lean ====
section
/-! SUPPORT. The arithmetic of the pseudocode: floors, rounding shifts, reductions, and bounds of the constant tables. -/

namespace Sys2Proof.Machine

/-- `asr` is a floor. -/
theorem asr_le_iff (v k : Int) (n : Nat) : k ≤ asr v n ↔ k * 2 ^ n ≤ v :=
  Int.le_ediv_iff_mul_le (by positivity)

theorem asr_lt_iff (v k : Int) (n : Nat) : asr v n < k ↔ v < k * 2 ^ n :=
  Int.ediv_lt_iff_lt_mul (by positivity)

theorem asr_mono {v v' : Int} (n : Nat) (h : v ≤ v') : asr v n ≤ asr v' n :=
  Int.ediv_le_ediv (by positivity) h

/-- `rshr` with a positive shift is a floor of the value plus a half. -/
theorem rshr_of_pos (v : Int) (k : Nat) (h : 0 < k) : rshr v k = asr (v + 2 ^ (k - 1)) k := by
  have hk : ¬ ((k : Int) ≤ 0) := by omega
  rw [rshr, if_neg hk, Int.toNat_natCast]

theorem rshr_of_nonpos (v s : Int) (h : s ≤ 0) : rshr v s = v * 2 ^ (-s).toNat := by
  simp [rshr, h, shl]

/-- `sext_N` of a pattern is its two's complement value (00_scope.md R11). -/
theorem sext_toNat_eq_toInt {n : Nat} (p : BitVec (n + 1)) : sext (n + 1) p.toNat = p.toInt := by
  have h := p.isLt
  rw [BitVec.toInt_eq_toNat_cond]
  simp only [sext, Nat.add_sub_cancel]
  have h2 : (2 : Nat) ^ (n + 1) = 2 * 2 ^ n := by rw [Nat.pow_succ]; omega
  have h3 : (2 : Int) ^ (n + 1) = 2 * 2 ^ n := by rw [Int.pow_succ]; omega
  have hc : (((2 : Nat) ^ n : Nat) : Int) = (2 : Int) ^ n := by push_cast; rfl
  have hp : (0 : Int) < 2 ^ n := by positivity
  rw [Int.emod_eq_of_lt (by omega) (by omega)]
  split
  · rw [Int.ediv_eq_zero_of_lt (by omega) (by omega)]; simp
  · have h1 : (p.toNat : Int) / 2 ^ n = 1 := by
      apply le_antisymm
      · exact Int.lt_add_one_iff.mp ((Int.ediv_lt_iff_lt_mul hp).mpr (by omega))
      · exact (Int.le_ediv_iff_mul_le hp).mpr (by omega)
    rw [h1]
    omega

theorem semiRom_bounds : ∀ i < 12, 65536 ≤ semiRom i ∧ semiRom i ≤ 123715 := by decide

theorem nfracRom_bounds : ∀ i < 256, 65536 ≤ nfracRom i ∧ nfracRom i ≤ 69417 := by decide +kernel

theorem ehiRom_bounds : ∀ i < 256, 65536 ≤ ehiRom i ∧ ehiRom i ≤ 130718 := by decide +kernel

theorem eloRom_bounds : ∀ i < 256, 65536 ≤ eloRom i ∧ eloRom i ≤ 65713 := by decide +kernel

/-- The check sums of the tables (42_parameter_mapping.md R150 to R153). -/
theorem rom_sums :
    ((List.range 12).map semiRom).sum = 1102129 ∧ ((List.range 256).map nfracRom).sum = 17269279 ∧
    ((List.range 256).map ehiRom).sum = 24171656 ∧ ((List.range 256).map eloRom).sum = 16799861 := by decide +kernel

end Sys2Proof.Machine
end

