-- ==== Sys2Proof/Laws/Decode.lean ====
section
/-! SUPPORT. The fields of a word as numbers, the fields of an assembled word, and when the decoder gives what. -/

namespace Sys2Proof

theorem opField_toNat (w : CmdWord) : (opField w).toNat = w.toNat / 2 ^ 28 := by
  have := w.isLt
  simp only [opField, BitVec.extractLsb'_toNat, Nat.shiftRight_eq_div_pow]
  omega

theorem rsvField_toNat (w : CmdWord) : (rsvField w).toNat = w.toNat / 2 ^ 21 % 2 ^ 7 := by
  simp only [rsvField, BitVec.extractLsb'_toNat, Nat.shiftRight_eq_div_pow]

theorem addrField_toNat (w : CmdWord) : (addrField w).toNat = w.toNat / 2 ^ 16 % 2 ^ 5 := by
  simp only [addrField, BitVec.extractLsb'_toNat, Nat.shiftRight_eq_div_pow]

theorem immField_toNat (w : CmdWord) : (immField w).toNat = w.toNat % 2 ^ 16 := by
  simp only [immField, BitVec.extractLsb'_toNat, Nat.shiftRight_eq_div_pow, Nat.pow_zero, Nat.div_one]

/-- A concatenation as a number (00_scope.md R10). -/
theorem append_toNat {m n : Nat} (a : BitVec m) (b : BitVec n) : (a ++ b).toNat = a.toNat * 2 ^ n + b.toNat := by
  rw [BitVec.toNat_append, ← Nat.shiftLeft_add_eq_or_of_lt b.isLt, Nat.shiftLeft_eq]

theorem assembleFields_toNat (op : BitVec 4) (rsv : BitVec 7) (addr : RegAddr) (imm : Half) :
    (assembleFields op rsv addr imm).toNat =
      op.toNat * 2 ^ 28 + rsv.toNat * 2 ^ 21 + addr.toNat * 2 ^ 16 + imm.toNat := by
  have h1 := append_toNat (op ++ rsv ++ addr) imm
  have h2 := append_toNat (op ++ rsv) addr
  have h3 := append_toNat op rsv
  have h : (assembleFields op rsv addr imm).toNat = (op ++ rsv ++ addr ++ imm).toNat := rfl
  omega

@[simp] theorem opField_assembleFields (op : BitVec 4) (rsv : BitVec 7) (addr : RegAddr) (imm : Half) :
    opField (assembleFields op rsv addr imm) = op := by
  have h2 := rsv.isLt
  have h3 := addr.isLt
  have h4 := imm.isLt
  apply BitVec.eq_of_toNat_eq
  rw [opField_toNat, assembleFields_toNat]
  omega

@[simp] theorem rsvField_assembleFields (op : BitVec 4) (rsv : BitVec 7) (addr : RegAddr) (imm : Half) :
    rsvField (assembleFields op rsv addr imm) = rsv := by
  have h2 := rsv.isLt
  have h3 := addr.isLt
  have h4 := imm.isLt
  apply BitVec.eq_of_toNat_eq
  rw [rsvField_toNat, assembleFields_toNat]
  omega

@[simp] theorem addrField_assembleFields (op : BitVec 4) (rsv : BitVec 7) (addr : RegAddr) (imm : Half) :
    addrField (assembleFields op rsv addr imm) = addr := by
  have h3 := addr.isLt
  have h4 := imm.isLt
  apply BitVec.eq_of_toNat_eq
  rw [addrField_toNat, assembleFields_toNat]
  omega

@[simp] theorem immField_assembleFields (op : BitVec 4) (rsv : BitVec 7) (addr : RegAddr) (imm : Half) :
    immField (assembleFields op rsv addr imm) = imm := by
  have h4 := imm.isLt
  apply BitVec.eq_of_toNat_eq
  rw [immField_toNat, assembleFields_toNat]
  omega

/-- Everything the decoder can answer. -/
theorem decode_cases (w : CmdWord) :
    (commandOf (opField w) (addrField w) (immField w) = none ∧ decode w = .illegal .illegalOpcode) ∨
    (∃ i, commandOf (opField w) (addrField w) (immField w) = some i ∧ rsvField w = 0 ∧ decode w = .command i) ∨
    (∃ i, commandOf (opField w) (addrField w) (immField w) = some i ∧ rsvField w ≠ 0 ∧
      decode w = .illegal (.reservedField (opField w))) := by
  unfold decode
  split
  · exact .inl ⟨by assumption, rfl⟩
  · by_cases h : rsvField w = 0
    · exact .inr (.inl ⟨_, by assumption, h, if_pos h⟩)
    · exact .inr (.inr ⟨_, by assumption, h, if_neg h⟩)

/-- A command exists for the opcodes 0 to 9 alone. -/
theorem commandOf_eq_none_iff (op : BitVec 4) (addr : RegAddr) (imm : Half) :
    commandOf op addr imm = none ↔ 10 ≤ op.toNat := by
  have h := op.isLt
  generalize hn : op.toNat = n at h
  unfold commandOf
  rw [hn]
  interval_cases n <;> simp

end Sys2Proof
end

