-- ==== Sys2Proof/Laws/State.lean ====
section
/-! SUPPORT. One lemma per field and update of the state, so that no proof unfolds a record update. -/

namespace Sys2Proof.Machine

@[simp] theorem State.emit_phc (o : Output) (s : State) : (s.emit o).phc = s.phc := rfl
@[simp] theorem State.emit_phm (o : Output) (s : State) : (s.emit o).phm = s.phm := rfl
@[simp] theorem State.emit_stg (o : Output) (s : State) : (s.emit o).stg = s.stg := rfl
@[simp] theorem State.emit_act (o : Output) (s : State) : (s.emit o).act = s.act := rfl
@[simp] theorem State.emit_oph (o : Output) (s : State) : (s.emit o).oph = s.oph := rfl
@[simp] theorem State.emit_out (o : Output) (s : State) : (s.emit o).out = s.out := rfl
@[simp] theorem State.emit_res (o : Output) (s : State) : (s.emit o).res = s.res := rfl
@[simp] theorem State.emit_pend (o : Output) (s : State) : (s.emit o).pend = s.pend := rfl
@[simp] theorem State.emit_err (o : Output) (s : State) : (s.emit o).err = s.err := rfl
@[simp] theorem State.emit_ecode (o : Output) (s : State) : (s.emit o).ecode = s.ecode := rfl
@[simp] theorem State.emit_fsHz (o : Output) (s : State) : (s.emit o).fsHz = s.fsHz := rfl
@[simp] theorem State.emit_pulse (o : Output) (s : State) : (s.emit o).pulse = o := rfl
@[simp] theorem State.emit_input (o : Output) (s : State) : (s.emit o).input = s.input := rfl

@[simp] theorem State.raise_phc (c : CmdError) (s : State) : (s.raise c).phc = s.phc := rfl
@[simp] theorem State.raise_phm (c : CmdError) (s : State) : (s.raise c).phm = s.phm := rfl
@[simp] theorem State.raise_stg (c : CmdError) (s : State) : (s.raise c).stg = s.stg := rfl
@[simp] theorem State.raise_act (c : CmdError) (s : State) : (s.raise c).act = s.act := rfl
@[simp] theorem State.raise_oph (c : CmdError) (s : State) : (s.raise c).oph = s.oph := rfl
@[simp] theorem State.raise_out (c : CmdError) (s : State) : (s.raise c).out = s.out := rfl
@[simp] theorem State.raise_res (c : CmdError) (s : State) : (s.raise c).res = s.res := rfl
@[simp] theorem State.raise_pend (c : CmdError) (s : State) : (s.raise c).pend = s.pend := rfl
@[simp] theorem State.raise_err (c : CmdError) (s : State) : (s.raise c).err = true := rfl
@[simp] theorem State.raise_ecode (c : CmdError) (s : State) : (s.raise c).ecode = if s.err then s.ecode else c.code := rfl
@[simp] theorem State.raise_fsHz (c : CmdError) (s : State) : (s.raise c).fsHz = s.fsHz := rfl
@[simp] theorem State.raise_pulse (c : CmdError) (s : State) : (s.raise c).pulse = s.pulse := rfl
@[simp] theorem State.raise_input (c : CmdError) (s : State) : (s.raise c).input = s.input := rfl

@[simp] theorem State.clearError_phc (s : State) : (s.clearError).phc = s.phc := rfl
@[simp] theorem State.clearError_phm (s : State) : (s.clearError).phm = s.phm := rfl
@[simp] theorem State.clearError_stg (s : State) : (s.clearError).stg = s.stg := rfl
@[simp] theorem State.clearError_act (s : State) : (s.clearError).act = s.act := rfl
@[simp] theorem State.clearError_oph (s : State) : (s.clearError).oph = s.oph := rfl
@[simp] theorem State.clearError_out (s : State) : (s.clearError).out = s.out := rfl
@[simp] theorem State.clearError_res (s : State) : (s.clearError).res = s.res := rfl
@[simp] theorem State.clearError_pend (s : State) : (s.clearError).pend = s.pend := rfl
@[simp] theorem State.clearError_err (s : State) : (s.clearError).err = false := rfl
@[simp] theorem State.clearError_ecode (s : State) : (s.clearError).ecode = 0 := rfl
@[simp] theorem State.clearError_fsHz (s : State) : (s.clearError).fsHz = s.fsHz := rfl
@[simp] theorem State.clearError_pulse (s : State) : (s.clearError).pulse = s.pulse := rfl
@[simp] theorem State.clearError_input (s : State) : (s.clearError).input = s.input := rfl

@[simp] theorem State.commandError_phc (c : CmdError) (o : Output) (s : State) : (s.commandError c o).phc = s.phc := rfl
@[simp] theorem State.commandError_phm (c : CmdError) (o : Output) (s : State) : (s.commandError c o).phm = s.phm := rfl
@[simp] theorem State.commandError_stg (c : CmdError) (o : Output) (s : State) : (s.commandError c o).stg = s.stg := rfl
@[simp] theorem State.commandError_act (c : CmdError) (o : Output) (s : State) : (s.commandError c o).act = s.act := rfl
@[simp] theorem State.commandError_oph (c : CmdError) (o : Output) (s : State) : (s.commandError c o).oph = s.oph := rfl
@[simp] theorem State.commandError_out (c : CmdError) (o : Output) (s : State) : (s.commandError c o).out = s.out := rfl
@[simp] theorem State.commandError_res (c : CmdError) (o : Output) (s : State) : (s.commandError c o).res = s.res := rfl
@[simp] theorem State.commandError_pend (c : CmdError) (o : Output) (s : State) : (s.commandError c o).pend = s.pend := rfl
@[simp] theorem State.commandError_err (c : CmdError) (o : Output) (s : State) : (s.commandError c o).err = true := rfl
@[simp] theorem State.commandError_ecode (c : CmdError) (o : Output) (s : State) : (s.commandError c o).ecode = if s.err then s.ecode else c.code := rfl
@[simp] theorem State.commandError_fsHz (c : CmdError) (o : Output) (s : State) : (s.commandError c o).fsHz = s.fsHz := rfl
@[simp] theorem State.commandError_pulse (c : CmdError) (o : Output) (s : State) : (s.commandError c o).pulse = o := rfl
@[simp] theorem State.commandError_input (c : CmdError) (o : Output) (s : State) : (s.commandError c o).input = s.input := rfl

@[simp] theorem State.writeStaging_phc (i : ParamIdx) (v : Half) (s : State) : (s.writeStaging i v).phc = s.phc := rfl
@[simp] theorem State.writeStaging_phm (i : ParamIdx) (v : Half) (s : State) : (s.writeStaging i v).phm = s.phm := rfl
@[simp] theorem State.writeStaging_stg (i : ParamIdx) (v : Half) (s : State) : (s.writeStaging i v).stg = s.stg.set i v := rfl
@[simp] theorem State.writeStaging_act (i : ParamIdx) (v : Half) (s : State) : (s.writeStaging i v).act = s.act := rfl
@[simp] theorem State.writeStaging_oph (i : ParamIdx) (v : Half) (s : State) : (s.writeStaging i v).oph = s.oph := rfl
@[simp] theorem State.writeStaging_out (i : ParamIdx) (v : Half) (s : State) : (s.writeStaging i v).out = s.out := rfl
@[simp] theorem State.writeStaging_res (i : ParamIdx) (v : Half) (s : State) : (s.writeStaging i v).res = s.res := rfl
@[simp] theorem State.writeStaging_pend (i : ParamIdx) (v : Half) (s : State) : (s.writeStaging i v).pend = true := rfl
@[simp] theorem State.writeStaging_err (i : ParamIdx) (v : Half) (s : State) : (s.writeStaging i v).err = s.err := rfl
@[simp] theorem State.writeStaging_ecode (i : ParamIdx) (v : Half) (s : State) : (s.writeStaging i v).ecode = s.ecode := rfl
@[simp] theorem State.writeStaging_fsHz (i : ParamIdx) (v : Half) (s : State) : (s.writeStaging i v).fsHz = s.fsHz := rfl
@[simp] theorem State.writeStaging_pulse (i : ParamIdx) (v : Half) (s : State) : (s.writeStaging i v).pulse = s.pulse := rfl
@[simp] theorem State.writeStaging_input (i : ParamIdx) (v : Half) (s : State) : (s.writeStaging i v).input = s.input := rfl

@[simp] theorem State.writeOph_phc (v : Half) (s : State) : (s.writeOph v).phc = s.phc := rfl
@[simp] theorem State.writeOph_phm (v : Half) (s : State) : (s.writeOph v).phm = s.phm := rfl
@[simp] theorem State.writeOph_stg (v : Half) (s : State) : (s.writeOph v).stg = s.stg := rfl
@[simp] theorem State.writeOph_act (v : Half) (s : State) : (s.writeOph v).act = s.act := rfl
@[simp] theorem State.writeOph_oph (v : Half) (s : State) : (s.writeOph v).oph = v := rfl
@[simp] theorem State.writeOph_out (v : Half) (s : State) : (s.writeOph v).out = s.out := rfl
@[simp] theorem State.writeOph_res (v : Half) (s : State) : (s.writeOph v).res = s.res := rfl
@[simp] theorem State.writeOph_pend (v : Half) (s : State) : (s.writeOph v).pend = s.pend := rfl
@[simp] theorem State.writeOph_err (v : Half) (s : State) : (s.writeOph v).err = s.err := rfl
@[simp] theorem State.writeOph_ecode (v : Half) (s : State) : (s.writeOph v).ecode = s.ecode := rfl
@[simp] theorem State.writeOph_fsHz (v : Half) (s : State) : (s.writeOph v).fsHz = s.fsHz := rfl
@[simp] theorem State.writeOph_pulse (v : Half) (s : State) : (s.writeOph v).pulse = s.pulse := rfl
@[simp] theorem State.writeOph_input (v : Half) (s : State) : (s.writeOph v).input = s.input := rfl

@[simp] theorem State.publish_phc (s : State) : (s.publish).phc = s.phc := rfl
@[simp] theorem State.publish_phm (s : State) : (s.publish).phm = s.phm := rfl
@[simp] theorem State.publish_stg (s : State) : (s.publish).stg = s.stg := rfl
@[simp] theorem State.publish_act (s : State) : (s.publish).act = s.stg := rfl
@[simp] theorem State.publish_oph (s : State) : (s.publish).oph = s.oph := rfl
@[simp] theorem State.publish_out (s : State) : (s.publish).out = s.out := rfl
@[simp] theorem State.publish_res (s : State) : (s.publish).res = s.res := rfl
@[simp] theorem State.publish_pend (s : State) : (s.publish).pend = false := rfl
@[simp] theorem State.publish_err (s : State) : (s.publish).err = s.err := rfl
@[simp] theorem State.publish_ecode (s : State) : (s.publish).ecode = s.ecode := rfl
@[simp] theorem State.publish_fsHz (s : State) : (s.publish).fsHz = s.fsHz := rfl
@[simp] theorem State.publish_pulse (s : State) : (s.publish).pulse = s.pulse := rfl
@[simp] theorem State.publish_input (s : State) : (s.publish).input = s.input := rfl

@[simp] theorem State.writeRes_phc (v : Wide) (s : State) : (s.writeRes v).phc = s.phc := rfl
@[simp] theorem State.writeRes_phm (v : Wide) (s : State) : (s.writeRes v).phm = s.phm := rfl
@[simp] theorem State.writeRes_stg (v : Wide) (s : State) : (s.writeRes v).stg = s.stg := rfl
@[simp] theorem State.writeRes_act (v : Wide) (s : State) : (s.writeRes v).act = s.act := rfl
@[simp] theorem State.writeRes_oph (v : Wide) (s : State) : (s.writeRes v).oph = s.oph := rfl
@[simp] theorem State.writeRes_out (v : Wide) (s : State) : (s.writeRes v).out = s.out := rfl
@[simp] theorem State.writeRes_res (v : Wide) (s : State) : (s.writeRes v).res = v := rfl
@[simp] theorem State.writeRes_pend (v : Wide) (s : State) : (s.writeRes v).pend = s.pend := rfl
@[simp] theorem State.writeRes_err (v : Wide) (s : State) : (s.writeRes v).err = s.err := rfl
@[simp] theorem State.writeRes_ecode (v : Wide) (s : State) : (s.writeRes v).ecode = s.ecode := rfl
@[simp] theorem State.writeRes_fsHz (v : Wide) (s : State) : (s.writeRes v).fsHz = s.fsHz := rfl
@[simp] theorem State.writeRes_pulse (v : Wide) (s : State) : (s.writeRes v).pulse = s.pulse := rfl
@[simp] theorem State.writeRes_input (v : Wide) (s : State) : (s.writeRes v).input = s.input := rfl

@[simp] theorem State.writeSample_phc (phm phc : Phase) (o : Wide) (s : State) : (s.writeSample phm phc o).phc = phc := rfl
@[simp] theorem State.writeSample_phm (phm phc : Phase) (o : Wide) (s : State) : (s.writeSample phm phc o).phm = phm := rfl
@[simp] theorem State.writeSample_stg (phm phc : Phase) (o : Wide) (s : State) : (s.writeSample phm phc o).stg = s.stg := rfl
@[simp] theorem State.writeSample_act (phm phc : Phase) (o : Wide) (s : State) : (s.writeSample phm phc o).act = s.act := rfl
@[simp] theorem State.writeSample_oph (phm phc : Phase) (o : Wide) (s : State) : (s.writeSample phm phc o).oph = s.oph := rfl
@[simp] theorem State.writeSample_out (phm phc : Phase) (o : Wide) (s : State) : (s.writeSample phm phc o).out = o := rfl
@[simp] theorem State.writeSample_res (phm phc : Phase) (o : Wide) (s : State) : (s.writeSample phm phc o).res = s.res := rfl
@[simp] theorem State.writeSample_pend (phm phc : Phase) (o : Wide) (s : State) : (s.writeSample phm phc o).pend = s.pend := rfl
@[simp] theorem State.writeSample_err (phm phc : Phase) (o : Wide) (s : State) : (s.writeSample phm phc o).err = s.err := rfl
@[simp] theorem State.writeSample_ecode (phm phc : Phase) (o : Wide) (s : State) : (s.writeSample phm phc o).ecode = s.ecode := rfl
@[simp] theorem State.writeSample_fsHz (phm phc : Phase) (o : Wide) (s : State) : (s.writeSample phm phc o).fsHz = s.fsHz := rfl
@[simp] theorem State.writeSample_pulse (phm phc : Phase) (o : Wide) (s : State) : (s.writeSample phm phc o).pulse = .smp o := rfl
@[simp] theorem State.writeSample_input (phm phc : Phase) (o : Wide) (s : State) : (s.writeSample phm phc o).input = s.input := rfl

@[simp] theorem State.idle_phc (s : State) : (s.idle).phc = s.phc := rfl
@[simp] theorem State.idle_phm (s : State) : (s.idle).phm = s.phm := rfl
@[simp] theorem State.idle_stg (s : State) : (s.idle).stg = s.stg := rfl
@[simp] theorem State.idle_act (s : State) : (s.idle).act = s.act := rfl
@[simp] theorem State.idle_oph (s : State) : (s.idle).oph = s.oph := rfl
@[simp] theorem State.idle_out (s : State) : (s.idle).out = s.out := rfl
@[simp] theorem State.idle_res (s : State) : (s.idle).res = s.res := rfl
@[simp] theorem State.idle_pend (s : State) : (s.idle).pend = s.pend := rfl
@[simp] theorem State.idle_err (s : State) : (s.idle).err = s.err := rfl
@[simp] theorem State.idle_ecode (s : State) : (s.idle).ecode = s.ecode := rfl
@[simp] theorem State.idle_fsHz (s : State) : (s.idle).fsHz = s.fsHz := rfl
@[simp] theorem State.idle_pulse (s : State) : (s.idle).pulse = .none := rfl
@[simp] theorem State.idle_input (s : State) : (s.idle).input = s.input := rfl

@[simp] theorem State.takeInput_phc (s : State) : (s.takeInput).phc = s.phc := rfl
@[simp] theorem State.takeInput_phm (s : State) : (s.takeInput).phm = s.phm := rfl
@[simp] theorem State.takeInput_stg (s : State) : (s.takeInput).stg = s.stg := rfl
@[simp] theorem State.takeInput_act (s : State) : (s.takeInput).act = s.act := rfl
@[simp] theorem State.takeInput_oph (s : State) : (s.takeInput).oph = s.oph := rfl
@[simp] theorem State.takeInput_out (s : State) : (s.takeInput).out = s.out := rfl
@[simp] theorem State.takeInput_res (s : State) : (s.takeInput).res = s.res := rfl
@[simp] theorem State.takeInput_pend (s : State) : (s.takeInput).pend = s.pend := rfl
@[simp] theorem State.takeInput_err (s : State) : (s.takeInput).err = s.err := rfl
@[simp] theorem State.takeInput_ecode (s : State) : (s.takeInput).ecode = s.ecode := rfl
@[simp] theorem State.takeInput_fsHz (s : State) : (s.takeInput).fsHz = s.fsHz := rfl
@[simp] theorem State.takeInput_pulse (s : State) : (s.takeInput).pulse = s.pulse := rfl
@[simp] theorem State.takeInput_input (s : State) : (s.takeInput).input = s.input.tail := rfl

@[simp] theorem State.presentWord_phc (w : CmdWord) (s : State) : (s.presentWord w).phc = s.phc := rfl
@[simp] theorem State.presentWord_phm (w : CmdWord) (s : State) : (s.presentWord w).phm = s.phm := rfl
@[simp] theorem State.presentWord_stg (w : CmdWord) (s : State) : (s.presentWord w).stg = s.stg := rfl
@[simp] theorem State.presentWord_act (w : CmdWord) (s : State) : (s.presentWord w).act = s.act := rfl
@[simp] theorem State.presentWord_oph (w : CmdWord) (s : State) : (s.presentWord w).oph = s.oph := rfl
@[simp] theorem State.presentWord_out (w : CmdWord) (s : State) : (s.presentWord w).out = s.out := rfl
@[simp] theorem State.presentWord_res (w : CmdWord) (s : State) : (s.presentWord w).res = s.res := rfl
@[simp] theorem State.presentWord_pend (w : CmdWord) (s : State) : (s.presentWord w).pend = s.pend := rfl
@[simp] theorem State.presentWord_err (w : CmdWord) (s : State) : (s.presentWord w).err = s.err := rfl
@[simp] theorem State.presentWord_ecode (w : CmdWord) (s : State) : (s.presentWord w).ecode = s.ecode := rfl
@[simp] theorem State.presentWord_fsHz (w : CmdWord) (s : State) : (s.presentWord w).fsHz = s.fsHz := rfl
@[simp] theorem State.presentWord_pulse (w : CmdWord) (s : State) : (s.presentWord w).pulse = s.pulse := rfl
@[simp] theorem State.presentWord_input (w : CmdWord) (s : State) : (s.presentWord w).input = .command w :: s.input := rfl

@[simp] theorem State.resetAt_phc (fs : Nat) : (State.resetAt fs).phc = 0 := rfl
@[simp] theorem State.resetAt_phm (fs : Nat) : (State.resetAt fs).phm = 0 := rfl
@[simp] theorem State.resetAt_stg (fs : Nat) : (State.resetAt fs).stg = Params.zero := rfl
@[simp] theorem State.resetAt_act (fs : Nat) : (State.resetAt fs).act = Params.zero := rfl
@[simp] theorem State.resetAt_oph (fs : Nat) : (State.resetAt fs).oph = 0 := rfl
@[simp] theorem State.resetAt_out (fs : Nat) : (State.resetAt fs).out = 0 := rfl
@[simp] theorem State.resetAt_res (fs : Nat) : (State.resetAt fs).res = 0 := rfl
@[simp] theorem State.resetAt_pend (fs : Nat) : (State.resetAt fs).pend = false := rfl
@[simp] theorem State.resetAt_err (fs : Nat) : (State.resetAt fs).err = false := rfl
@[simp] theorem State.resetAt_ecode (fs : Nat) : (State.resetAt fs).ecode = 0 := rfl
@[simp] theorem State.resetAt_fsHz (fs : Nat) : (State.resetAt fs).fsHz = fs := rfl
@[simp] theorem State.resetAt_pulse (fs : Nat) : (State.resetAt fs).pulse = .none := rfl
@[simp] theorem State.resetAt_input (fs : Nat) : (State.resetAt fs).input = [] := rfl

@[simp] theorem State.afterReset_phc (s : State) : s.afterReset.phc = 0 := rfl
@[simp] theorem State.afterReset_phm (s : State) : s.afterReset.phm = 0 := rfl
@[simp] theorem State.afterReset_stg (s : State) : s.afterReset.stg = Params.zero := rfl
@[simp] theorem State.afterReset_act (s : State) : s.afterReset.act = Params.zero := rfl
@[simp] theorem State.afterReset_oph (s : State) : s.afterReset.oph = 0 := rfl
@[simp] theorem State.afterReset_out (s : State) : s.afterReset.out = 0 := rfl
@[simp] theorem State.afterReset_res (s : State) : s.afterReset.res = 0 := rfl
@[simp] theorem State.afterReset_pend (s : State) : s.afterReset.pend = false := rfl
@[simp] theorem State.afterReset_err (s : State) : s.afterReset.err = false := rfl
@[simp] theorem State.afterReset_ecode (s : State) : s.afterReset.ecode = 0 := rfl
@[simp] theorem State.afterReset_fsHz (s : State) : s.afterReset.fsHz = s.fsHz := rfl
@[simp] theorem State.afterReset_pulse (s : State) : s.afterReset.pulse = .none := rfl
@[simp] theorem State.afterReset_input (s : State) : s.afterReset.input = s.input := rfl

@[simp] theorem State.reset_eq : State.reset = State.resetAt 48000 := rfl

end Sys2Proof.Machine
end

