-- ==== Sys2Proof/Laws/Ops.lean ====
section
/-! SUPPORT. What each shared operation can do, said once: register reads and writes, accepted words and inputs, the step,
and runs of inputs. -/

namespace Sys2Proof.Machine

@[simp] theorem Params.get_set_same (p : Params) (i : ParamIdx) (v : Half) : (p.set i v).get i = v := by
  cases i <;> rfl

theorem Params.get_set_other (p : Params) (i j : ParamIdx) (v : Half) (h : i ≠ j) : (p.set i v).get j = p.get j := by
  cases i <;> cases j <;> first | rfl | exact absurd rfl h

/-- The unmapped addresses (10_state.md R32, R33). -/
theorem regAt_unmapped_iff (a : RegAddr) : regAt a = .unmapped ↔ (5 ≤ a.toNat ∧ a.toNat ≤ 7) ∨ 0x16 ≤ a.toNat := by
  revert a; decide

/-- The address of `OPH` (10_state.md R26). -/
theorem regAt_oph_iff (a : RegAddr) : regAt a = .oph ↔ a.toNat = 0x0D := by
  revert a; decide

/-- The addresses of the staging registers (10_state.md R24). -/
theorem regAt_stg_iff (a : RegAddr) : (∃ i, regAt a = .stg i) ↔ a.toNat ≤ 4 := by
  have h : (regAt a = .stg .gainDb ∨ regAt a = .stg .note ∨ regAt a = .stg .modNote ∨ regAt a = .stg .depthDb ∨
      regAt a = .stg .drive) ↔ a.toNat ≤ 4 := by revert a; decide
  rw [← h]
  constructor
  · rintro ⟨i, hi⟩
    cases i <;> simp [hi]
  · rintro (h | h | h | h | h) <;> exact ⟨_, h⟩

/-- Everything a register write can do (44_host_commands.md R201). -/
theorem writeReg_cases (a : RegAddr) (v : Half) (s : State) :
    (∃ i, regAt a = .stg i ∧ writeReg a v s = (s.writeStaging i v).emit .none) ∨
    (regAt a = .oph ∧ writeReg a v s = (s.writeOph v).emit .none) ∨
    (regAt a = .unmapped ∧ writeReg a v s = s.commandError .badAddress .none) ∨
    (regAt a ≠ .unmapped ∧ regAt a ≠ .oph ∧ (∀ i, regAt a ≠ .stg i) ∧
      writeReg a v s = s.commandError .readOnly .none) := by
  unfold writeReg
  cases h : regAt a <;> simp

/-- A read answers nothing exactly where nothing is mapped (44_host_commands.md R205). -/
theorem readReg_eq_none_iff (s : State) (a : RegAddr) : readReg s a = none ↔ regAt a = .unmapped := by
  unfold readReg
  cases h : regAt a <;> simp

/-- Everything `RD` can do (44_host_commands.md R204, R205). -/
theorem execRd_cases (a : RegAddr) (s : State) :
    (∃ d, readReg s a = some d ∧ execRd a s = .next (s.emit (.rsp d))) ∨
    (readReg s a = none ∧ execRd a s = .next (s.commandError .badAddress (.rsp 0))) := by
  unfold execRd
  cases h : readReg s a <;> simp

theorem acceptWord_command {w : CmdWord} {i : Instr} (h : decode w = .command i) (s : State) :
    acceptWord w s = exec i s := by
  simp [acceptWord, h]

theorem acceptWord_illegal {w : CmdWord} {e : Illegal} (h : decode w = .illegal e) (s : State) :
    acceptWord w s = .next (s.illegalWord e) := by
  simp [acceptWord, h]

theorem step_nil {s : State} (h : s.input = []) : step s = .next s.takeInput.idle := by
  simp [step, acceptInput, h]

theorem step_reset {s : State} {rest : List HostInput} (h : s.input = .reset :: rest) :
    step s = .next s.takeInput.afterReset := by
  simp [step, acceptInput, h]

theorem step_command {s : State} {w : CmdWord} {rest : List HostInput} (h : s.input = .command w :: rest) :
    step s = acceptWord w s.takeInput := by
  simp [step, acceptInput, h]

theorem takeInput_cons {s : State} {h : HostInput} {rest : List HostInput} (hs : s.input = h :: rest) :
    s.takeInput = { s with input := rest } := by
  simp [State.takeInput, hs]

@[simp] theorem State.after_reset (s : State) : s.after .reset = s.afterReset := rfl

theorem State.after_command (w : CmdWord) (s t : State) (h : acceptWord w s = .next t) : s.after (.command w) = t := by
  simp [State.after, acceptInput, h]

theorem State.after_illegal {w : CmdWord} {e : Illegal} (h : decode w = .illegal e) (s : State) :
    s.after (.command w) = s.illegalWord e := by
  simp [State.after, acceptInput, acceptWord, h]

theorem State.after_instr {w : CmdWord} {i : Instr} {s t : State} (h : decode w = .command i) (ht : exec i s = .next t) :
    s.after (.command w) = t := by
  simp [State.after, acceptInput, acceptWord, h, ht]

@[simp] theorem runInputs_nil (s : State) : runInputs [] s = s := rfl

@[simp] theorem runInputs_cons (h : HostInput) (hs : List HostInput) (s : State) :
    runInputs (h :: hs) s = runInputs hs (s.after h) := rfl

theorem runInputs_append (hs hs' : List HostInput) (s : State) :
    runInputs (hs ++ hs') s = runInputs hs' (runInputs hs s) := by
  induction hs generalizing s with
  | nil => rfl
  | cons h hs ih => simp [ih]

theorem pulsesOf_append (hs hs' : List HostInput) (s : State) :
    pulsesOf (hs ++ hs') s = pulsesOf hs s ++ pulsesOf hs' (runInputs hs s) := by
  induction hs generalizing s with
  | nil => rfl
  | cons h hs ih =>
    simp only [List.cons_append, pulsesOf, runInputs_cons, ih]
    cases (s.after h).pulse <;> rfl

theorem samplesIn_append (os os' : List Output) : samplesIn (os ++ os') = samplesIn os ++ samplesIn os' := by
  induction os with
  | nil => rfl
  | cons o os ih => cases o <;> simp [samplesIn, ih]

end Sys2Proof.Machine
end

