-- ==== Sys2Proof/Laws/Ports.lean ====
section
/-! SUPPORT. What one edge of the clock does with a reset, what the command level sees of it, and what the host captures. -/

namespace Sys2Proof.Machine

@[simp] theorem takenInput_rst {p : PortState} {i : PortsIn} (h : i.rst = true) : takenInput p i = some .reset := by
  simp [takenInput, h]

@[simp] theorem completedWord_rst {p : PortState} {i : PortsIn} (h : i.rst = true) : completedWord p i = none := by
  simp [completedWord, h]

@[simp] theorem busyAfter_rst {p : PortState} {i : PortsIn} (h : i.rst = true) : busyAfter p i = none := by
  simp [busyAfter, h]

@[simp] theorem portsOut_smpData (p : PortState) (i : PortsIn) : (portsOut p i).smpData = p.core.out := rfl

@[simp] theorem portsOut_err (p : PortState) (i : PortsIn) : (portsOut p i).err = p.core.err := rfl

@[simp] theorem portsOut_cmdReady (p : PortState) (i : PortsIn) : (portsOut p i).cmdReady = (!i.rst && p.busy.isNone) := rfl

@[simp] theorem tick_busy (p : PortState) (i : PortsIn) : (tick i p).busy = busyAfter p i := rfl

@[simp] theorem tick_cycle (p : PortState) (i : PortsIn) : (tick i p).cycle = p.cycle + 1 := rfl

/-- The record after an edge is the record after what the command level sees of it. -/
theorem tick_core_of_next {p : PortState} {i : PortsIn} {t : State}
    (h : acceptInput (takenInput p i) p.core = .next t) : (tick i p).core = t := by
  simp [tick, h]

/-- Everything the host can capture at an edge: the pulse of the record, with `OUT` as the sample
(70_reset_and_hazards.md R414). -/
theorem portsOut_captured (p : PortState) (i : PortsIn) :
    (p.core.pulse = .none ∧ (portsOut p i).captured = []) ∨
    (∃ d, p.core.pulse = .rsp d ∧ (portsOut p i).captured = [.rsp d]) ∨
    (∃ o, p.core.pulse = .smp o ∧ (portsOut p i).captured = [.smp p.core.out]) := by
  unfold PortsOut.captured portsOut
  cases h : p.core.pulse <;> simp

end Sys2Proof.Machine
end

