-- ==== Sys2Proof/Tests/Slice0.lean ====
section
/-! SUPPORT. Tests: what the checks of a line refuse, words written out from the encoding tables, vectors of
95_test_vectors.md, and a state that meets the hypotheses of each statement. -/

namespace Sys2Proof.Tests

open Sys2Proof Sys2Proof.Machine

/-- The next state, where there is one. -/
def nextOf (o : Host.Outcome State Fault Refusal) : Option State :=
  match o with
  | .next t => some t
  | .fault _ => none
  | .refused _ => none

/-! ### What the assembler rejects (30_encoding.md R79) -/

theorem test_wf_register_32 : (SourceLine.rd (.number 32)).wellFormed = false := by decide
theorem test_wf_register_31 : (SourceLine.rd (.number 31)).wellFormed = true := by decide
theorem test_wf_register_negative : (SourceLine.wr (.number (-1)) 0).wellFormed = false := by decide
theorem test_wf_wr_immediate_high : (SourceLine.wr (.name .note) 0x10000).wellFormed = false := by decide
theorem test_wf_wr_immediate_low : (SourceLine.wr (.name .note) (-0x8001)).wellFormed = false := by decide
theorem test_wf_wr_immediate_ends :
    (SourceLine.wr (.name .note) 0xFFFF).wellFormed = true ∧ (SourceLine.wr (.name .note) (-0x8000)).wellFormed = true := by
  decide
theorem test_wf_sine : (SourceLine.sine 0x10000).wellFormed = false := by decide
theorem test_wf_clip : (SourceLine.clip (-0x8001)).wellFormed = false := by decide
theorem test_wf_mtof : (SourceLine.mtof 0x10000).wellFormed = false := by decide
theorem test_wf_dbtoa : (SourceLine.dbtoa (-0x8001)).wellFormed = false := by decide
theorem test_wf_sinex : (SourceLine.sinex 0x100000000).wellFormed = false := by decide
theorem test_wf_clipx : (SourceLine.clipx (-0x80000001)).wellFormed = false := by decide
theorem test_wf_setp_register : (SourceLine.setp (.number 40) 0).wellFormed = false := by decide
theorem test_wf_setp_immediate : (SourceLine.setp (.name .drive) 0x10000).wellFormed = false := by decide
theorem test_wf_setall :
    (SourceLine.setall 0x10000 0 0 0 0).wellFormed = false ∧ (SourceLine.setall 0 0x10000 0 0 0).wellFormed = false ∧
    (SourceLine.setall 0 0 0x10000 0 0).wellFormed = false ∧ (SourceLine.setall 0 0 0 0x10000 0).wellFormed = false ∧
    (SourceLine.setall 0 0 0 0 0x10000).wellFormed = false ∧ (SourceLine.setall 0 0 0 0 0).wellFormed = true := by decide
theorem test_wf_render : (SourceLine.render (-1)).wellFormed = false := by decide
theorem test_wf_raw :
    (SourceLine.rawWord 0x100000000).wellFormed = false ∧ (SourceLine.rawWord (-1)).wellFormed = false := by decide

/-! ### Words (30_encoding.md R71: op, rsv, addr, imm16) -/

theorem test_decode_nop : decode 0b0000_0000000_11111_0001001000110100#32 = .command .nop := by decide
theorem test_decode_wr : decode 0b0001_0000000_01101_1011111011101111#32 = .command (.wr 0x0D 0xBEEF) := by decide
theorem test_decode_rd : decode 0b0010_0000000_10010_0000000000000000#32 = .command (.rd 0x12) := by decide
theorem test_decode_commit : decode 0b0011_0000000_00000_0000000000000000#32 = .command .commit := by decide
theorem test_decode_step : decode 0b0100_0000000_00000_0000000000000000#32 = .command .step := by decide
theorem test_decode_sine : decode 0b0101_0000000_00000_0101011001111000#32 = .command (.sine 0x5678) := by decide
theorem test_decode_clip : decode 0b0110_0000000_00000_1000000000000001#32 = .command (.clip 0x8001) := by decide
theorem test_decode_mtof : decode 0b0111_0000000_00000_0101000100000000#32 = .command (.mtof 0x5100) := by decide
theorem test_decode_dbtoa : decode 0b1000_0000000_00000_1110110000000000#32 = .command (.dbtoa 0xEC00) := by decide
theorem test_decode_clrerr : decode 0b1001_0000000_00000_0000000000000000#32 = .command .clrerr := by decide
/-- 95_test_vectors.md E1 to E6. -/
theorem test_decode_illegal :
    decode 0xA0000000 = .illegal .illegalOpcode ∧ decode 0xF0000000 = .illegal .illegalOpcode ∧
    decode 0xB0200000 = .illegal .illegalOpcode ∧ decode 0x10250000 = .illegal (.reservedField 1) ∧
    decode 0x00200000 = .illegal (.reservedField 0) ∧ decode 0x0FE00000 = .illegal (.reservedField 0) := by decide
/-- The words of 30_encoding.md R79. -/
theorem test_encode :
    encode .nop = 0x00000000 ∧ encode (.wr 0x04 0x0100) = 0x10040100 ∧ encode (.rd 0x0E) = 0x200E0000 ∧
    encode .commit = 0x30000000 ∧ encode .step = 0x40000000 ∧ encode (.sine 0x5678) = 0x50005678 ∧
    encode (.clip 0x8001) = 0x60008001 ∧ encode (.mtof 0x4500) = 0x70004500 ∧ encode (.dbtoa 0xEC00) = 0x8000EC00 ∧
    encode .clrerr = 0x90000000 := by decide
theorem test_table_word : decodeTableWord 32 0x10014500 = some (.wr 0x01 0x4500) ∧ decodeTableWord 32 0xA0000000 = none := by
  decide
/-- 95_test_vectors.md B2: the word is the first thing the machine runs after reset. -/
theorem test_fetch_word :
    nextOf (step (State.reset.withFetchWord 32 0x8000EC00)) = some { State.reset with res := 0x0000FC019998 } := by
  decide +kernel

/-! ### The assembler's text (30_encoding.md R79, R80) -/

theorem test_text_wr :
    assembleText ['W', 'R', ' ', 'N', 'O', 'T', 'E', ',', ' ', '0', 'x', '4', '5', '0', '0'] = some [0x10014500] := by
  decide +kernel
theorem test_text_number_and_comment :
    assembleText ['R', 'D', ' ', '3', '1', ' ', ';', 'x'] = some [0x201F0000] := by decide +kernel
theorem test_text_rejects : assembleText ['R', 'D', ' ', '3', '2'] = none := by decide +kernel
theorem test_text_unused :
    disassemble 0x001F0000 =
      ['N', 'O', 'P', ' ', Char.ofNat 123, 'a', 'd', 'd', 'r', '=', '3', '1', Char.ofNat 125] := by decide +kernel
/-- The remark stands after the operand (log 14). -/
theorem test_text_unused_after_operand :
    disassemble 0x50051234 =
      ['S', 'I', 'N', 'E', ' ', '0', 'x', '1', '2', '3', '4', ' ', Char.ofNat 123, 'a', 'd', 'd', 'r', '=', '5',
        Char.ofNat 125] := by decide +kernel
theorem test_text_illegal_word :
    disassemble 0xA0000000 = ['.', 'w', 'o', 'r', 'd', ' ', '0', 'x', 'A', '0', '0', '0', '0', '0', '0', '0'] := by
  decide +kernel
/-- 30_encoding.md R80. -/
theorem test_sinex : assembleLine (.sinex 0xC0000001) = some [0x100DC000, 0x50000001] := by decide +kernel

/-! ### The commands -/

/-- Reset, and then `OPH` written. -/
def withOph (v : Half) : State := { State.reset with oph := v }

/-- Reset, and then the active parameters and the phases of a vector of 95_test_vectors.md section 8. -/
def engine (g n m d r : Half) (phm phc : Phase) : State :=
  { State.reset with act := ⟨g, n, m, d, r⟩, phm := phm, phc := phc }

/-- 95_test_vectors.md W8. -/
theorem test_nop : nextOf (exec .nop (withOph 0x1234)) = some (withOph 0x1234) := by decide +kernel
/-- 95_test_vectors.md W3. -/
theorem test_wr_note :
    (nextOf (exec (.wr 0x01 0x4500) State.reset)).map (fun t => (t.stg.note, t.act.note, t.pend)) =
      some (0x4500, 0x0000, true) := by decide +kernel
/-- 95_test_vectors.md E17. -/
theorem test_wr_read_only :
    (nextOf (exec (.wr 0x08 0x0001) State.reset)).map (fun t => (t.act.gainDb, t.err, t.ecode)) = some (0, true, 4) := by
  decide +kernel
/-- 95_test_vectors.md after V3: the middle part of `RES`. -/
theorem test_rd_res1 :
    (nextOf (exec (.rd 0x14) { State.reset with res := 0xFFFFFF7FF6A5 })).map (fun t => t.pulse) = some (.rsp 0xFF7F) := by
  decide +kernel
/-- 95_test_vectors.md E15. -/
theorem test_rd_unmapped :
    (nextOf (exec (.rd 0x05) State.reset)).map (fun t => (t.pulse, t.err, t.ecode)) = some (.rsp 0, true, 3) := by
  decide +kernel
/-- 95_test_vectors.md W4. -/
theorem test_commit :
    (nextOf (exec .commit { State.reset with stg := ⟨0, 0x4500, 0, 0, 0⟩, pend := true })).map
      (fun t => (t.act.note, t.stg.note, t.pend)) = some (0x4500, 0x4500, false) := by decide +kernel
/-- 95_test_vectors.md S2, step 2. -/
theorem test_step_gain :
    (nextOf (exec .step (engine 0xFF00 0x4500 0 0 0 0x000B29A7 0x0258BF26))).map (fun t => (t.out, t.phm, t.phc)) =
      some (0x000000068FC3, 0x0016534E, 0x04B17E4C) := by decide +kernel
/-- 95_test_vectors.md S4, steps 2 and 3: the carrier runs backward, and the sample is that of the phase before. -/
theorem test_step_modulated :
    (nextOf (exec .step (engine 0 0x4500 0x7F00 0x5000 0xF800 0x85CD1EB8 0xCF5BFD46))).map
      (fun t => (t.out, t.phm, t.phc)) = some (0xFFFFFF88F9BB, 0xC8B3AE14, 0x070A3D72) := by decide +kernel
/-- 95_test_vectors.md V3. -/
theorem test_sine_minimum :
    (nextOf (exec (.sine 0x0000) (withOph 0xC000))).map (fun t => t.res) = some 0xFFFFFF7FF6A5 := by decide +kernel
/-- 95_test_vectors.md V17. -/
theorem test_sine_low_half :
    (nextOf (exec (.sine 0x999A) (withOph 0x9999))).map (fun t => t.res) = some 0xFFFFFFB4CC3D := by decide +kernel
/-- 95_test_vectors.md K3. -/
theorem test_clip_minus_one :
    (nextOf (exec (.clip 0xFFFF) (withOph 0xFFFF))).map (fun t => t.res) = some 0xFFFFFFFFFFFE := by decide +kernel
/-- 95_test_vectors.md K23. -/
theorem test_clip_smallest :
    (nextOf (exec (.clip 0x0000) (withOph 0x8000))).map (fun t => t.res) = some 0xFFFFFF800000 := by decide +kernel
/-- 95_test_vectors.md M16. -/
theorem test_mtof_below_a4 :
    (nextOf (exec (.mtof 0x44FF) (withOph 0xFFFF))).map (fun t => t.res) = some 0x000002589AC6 := by decide +kernel
/-- 95_test_vectors.md section 4, the last line: another sample rate. -/
theorem test_mtof_44100 :
    (nextOf (exec (.mtof 0x4500) (State.resetAt 44100))).map (fun t => t.res.toNat) = some 42852281 := by decide +kernel
/-- 95_test_vectors.md B2. -/
theorem test_dbtoa_negative :
    (nextOf (exec (.dbtoa 0xEC00) State.reset)).map (fun t => t.res) = some 0x0000FC019998 := by decide +kernel
/-- 95_test_vectors.md B14. -/
theorem test_dbtoa_largest :
    (nextOf (exec (.dbtoa 0x7FFF) State.reset)).map (fun t => t.res) = some 0x00001501327F := by decide +kernel
/-- 44_host_commands.md R216. -/
theorem test_clrerr :
    nextOf (exec .clrerr { State.reset with err := true, ecode := 1 }) = some State.reset := by decide +kernel
/-- 95_test_vectors.md E8. -/
theorem test_illegal_step :
    nextOf (acceptWord 0x40200000 { State.reset with out := 0x75CB9, phc := 1 }) =
      some { State.reset with out := 0x75CB9, phc := 1, err := true, ecode := 2, pulse := .smp 0x75CB9 } := by
  decide +kernel
/-- 95_test_vectors.md E22: the first error is kept. -/
theorem test_first_error_wins :
    (nextOf (acceptWord 0xA0000000 { State.reset with err := true, ecode := 4 })).map (fun t => t.ecode) = some 4 := by
  decide +kernel
/-- 70_reset_and_hazards.md R400, R402. -/
theorem test_reset_input :
    nextOf (step { State.resetAt 44100 with phc := 7, err := true, ecode := 3, input := [.reset] }) =
      some (State.resetAt 44100) := by decide +kernel
/-- 60_exceptions.md R311: reset at the edge of a completion wins. -/
theorem test_reset_wins :
    takenInput { core := State.reset, busy := some (1, 0x40000000), cycle := 0 } ⟨true, true, 0x30000000⟩ = some .reset := by
  decide +kernel

/-- 70_reset_and_hazards.md R402: a command that has completed shows its pulse at the edge that samples the reset (log 8). -/
theorem test_completed_before_reset :
    let o := portsOut { core := { State.reset with out := 5, pulse := .smp 5 }, busy := none, cycle := 0 } ⟨true, false, 0⟩
    o.smpValid = true ∧ o.smpData = 5 ∧ o.cmdReady = false := by decide +kernel
/-- 70_reset_and_hazards.md R402: a command in progress at a reset has no effect. -/
theorem test_busy_at_reset :
    tick ⟨true, false, 0⟩ { core := { State.reset with phc := 9 }, busy := some (3, 0x40000000), cycle := 0 } =
      { core := State.reset, busy := none, cycle := 1 } := by decide +kernel

/-! ### States that meet the hypotheses of the statements -/

/-- The state after reset with words presented. -/
def presented (ws : List CmdWord) : State := { State.reset with input := ws.map .command }

theorem witness_WordClassByOpcodeAndReservedField :
    (10 ≤ (0xA0000000 : CmdWord).toNat / 2 ^ 28) ∧
    ((0x9FE00000 : CmdWord).toNat / 2 ^ 28 < 10 ∧ (0x9FE00000 : CmdWord).toNat / 2 ^ 21 % 128 ≠ 0) ∧
    ((0x901FFFFF : CmdWord).toNat / 2 ^ 28 < 10 ∧ (0x901FFFFF : CmdWord).toNat / 2 ^ 21 % 128 = 0) := by decide
theorem witness_FieldsBecomeOperands : (1 : BitVec 7) ≠ 0 := by decide
theorem witness_AssembledLinesDecode_fits :
    (-0x8000 ≤ (-0x8000 : Int) ∧ (-0x8000 : Int) ≤ 0xFFFF) ∧ (-0x8000 ≤ (0xFFFF : Int) ∧ (0xFFFF : Int) ≤ 0xFFFF) ∧
    (0 ≤ (31 : Int) ∧ (31 : Int) ≤ 31) := by decide
theorem witness_AssembledLinesDecode_rejects :
    ((-0x8001 : Int) < -0x8000 ∨ 0xFFFF < (-0x8001 : Int)) ∧ ((0x10000 : Int) < -0x8000 ∨ 0xFFFF < (0x10000 : Int)) ∧
    ((-1 : Int) < 0 ∨ 31 < (-1 : Int)) ∧ ((32 : Int) < 0 ∨ 31 < (32 : Int)) := by decide
theorem witness_AssembledLinesDecode_words :
    (∀ w, SourceLine.setp (.name .drive) (-1) ≠ .rawWord w) ∧
    assembleLine (.setp (.name .drive) (-1)) = some [0x1004FFFF, 0x30000000] :=
  ⟨fun _ h => SourceLine.noConfusion h, by decide⟩
theorem witness_StepRunsTheDecodedCommand :
    (presented [0x40000000]).input = .command 0x40000000 :: [] ∧ decode 0x40000000 = .command .step := by decide
theorem witness_StepRunsTheDecodedCommand_illegal :
    (presented [0xA0000000]).input = .command 0xA0000000 :: [] ∧ decode 0xA0000000 = .illegal .illegalOpcode := by decide
theorem witness_IllegalWordIsRecorded_opcode :
    10 ≤ (0xA0000000 : CmdWord).toNat / 2 ^ 28 ∧ 10 ≤ (0xFFFFFFFF : CmdWord).toNat / 2 ^ 28 := by decide
theorem witness_IllegalWordIsRecorded_field :
    ((0x00200000 : CmdWord).toNat / 2 ^ 28 < 10 ∧ (0x00200000 : CmdWord).toNat / 2 ^ 21 % 128 ≠ 0) ∧
    ((0x9FFFFFFF : CmdWord).toNat / 2 ^ 28 < 10 ∧ (0x9FFFFFFF : CmdWord).toNat / 2 ^ 21 % 128 ≠ 0) := by decide
theorem witness_StepIdlesWithoutInput : State.reset.input = [] := rfl
theorem witness_ResetReplacesTheState :
    ({ State.reset with input := [.reset, .reset] } : State).input = .reset :: [.reset] := rfl
theorem witness_NopChangesNothing :
    (0x00000000 : CmdWord).toNat / 2 ^ 21 = 0 ∧ (0x001FFFFF : CmdWord).toNat / 2 ^ 21 = 0 := by decide
theorem witness_WrResult_unmapped :
    ∀ a ∈ ([0x05, 0x07, 0x16, 0x1F] : List RegAddr), (5 ≤ a.toNat ∧ a.toNat ≤ 7) ∨ 0x16 ≤ a.toNat := by decide
theorem witness_WrResult_read_only :
    ∀ a ∈ ([0x08, 0x0C, 0x0E, 0x15] : List RegAddr),
      (0x08 ≤ a.toNat ∧ a.toNat ≤ 0x0C) ∨ (0x0E ≤ a.toNat ∧ a.toNat ≤ 0x15) := by decide
/-- No address falls under two clauses of the statement. -/
theorem witness_WrResult_clauses_exclude :
    ∀ a : RegAddr, ¬ (((5 ≤ a.toNat ∧ a.toNat ≤ 7) ∨ 0x16 ≤ a.toNat) ∧
      ((0x08 ≤ a.toNat ∧ a.toNat ≤ 0x0C) ∨ (0x0E ≤ a.toNat ∧ a.toNat ≤ 0x15))) := by decide
theorem witness_RdResult_unmapped :
    ∀ a ∈ ([0x05, 0x07, 0x16, 0x1F] : List RegAddr), (5 ≤ a.toNat ∧ a.toNat ≤ 7) ∨ 0x16 ≤ a.toNat := by decide
theorem witness_RdResult_word : (0x201FFFFF : CmdWord).toNat / 2 ^ 16 = 0x2000 + (0x1F : RegAddr).toNat := by decide
theorem witness_CommitResult : State.reset.SnapshotCoherent ∧ State.reset.pend = false := by decide
theorem witness_CommitResult_word : (0x301FFFFF : CmdWord).toNat / 2 ^ 21 = 0x3 * 2 ^ 7 := by decide
/-- The hypotheses of the statement are the values of 95_test_vectors.md S2, step 2. -/
theorem witness_StepResult :
    let s := engine 0xFF00 0x4500 0 0 0 0x000B29A7 0x0258BF26
    dbtoa s.act.gainDb = (116818, -1) ∧ mtof s.fsHz s.act.note = 0x0258BF26 ∧ dbtoa s.act.depthDb = (65536, 0) ∧
    mtof s.fsHz s.act.modNote = 0x000B29A7 ∧ (8968 : Int) = sine s.phm ∧
    (0 : Int) = (s.act.drive.toInt * 8968) / 2 ^ 8 ∧ (0 : Int) = clip 0 ∧
    (0 : Int) = rshr ((2 ^ 49 + (s.fsHz : Int)) / (2 * s.fsHz) * 65536 * 0) (55 - 0) ∧
    (0x0258BF26 : Phase) = BitVec.ofInt 32 ((0x0258BF26 : Phase).toNat + 0) ∧ (482489 : Int) = sine s.phc ∧
    (430019 : Int) = rshr (482489 * 116818) (16 - -1) := by decide +kernel
theorem witness_StepResult_words :
    (0x401FFFFF : CmdWord).toNat / 2 ^ 21 = 0x4 * 2 ^ 7 ∧
    (0x40200000 : CmdWord).toNat / 2 ^ 28 = 0x4 ∧ (0x40200000 : CmdWord).toNat / 2 ^ 21 ≠ 0x4 * 2 ^ 7 := by decide
theorem witness_SineResult_word : (0x501F8000 : CmdWord).toNat / 2 ^ 21 = 0x5 * 2 ^ 7 := by decide
theorem witness_ClipResult_word : (0x601F8000 : CmdWord).toNat / 2 ^ 21 = 0x6 * 2 ^ 7 := by decide
theorem witness_MtofResult_word : (0x701F8000 : CmdWord).toNat / 2 ^ 21 = 0x7 * 2 ^ 7 := by decide
theorem witness_DbtoaResult_word : (0x801F8000 : CmdWord).toNat / 2 ^ 21 = 0x8 * 2 ^ 7 := by decide
theorem witness_ClrerrResult : State.reset.ErrorRecordLegal ∧ State.reset.err = false := by decide
theorem witness_ClrerrResult_words :
    (0x901FFFFF : CmdWord).toNat / 2 ^ 21 = 0x9 * 2 ^ 7 ∧
    (0x90200000 : CmdWord).toNat / 2 ^ 28 = 0x9 ∧ (0x90200000 : CmdWord).toNat / 2 ^ 21 ≠ 0x9 * 2 ^ 7 := by decide
theorem witness_SineReadsTheTopBits : (0x7FFFFF00 : Phase).toNat / 256 = (0x7FFFFFFF : Phase).toNat / 256 := by decide
theorem witness_SineIsOddUpToOneLsb : (-2 : Int) ^ 23 + 1 ≤ -8388607 ∧ (8388607 : Int) ≤ 2 ^ 23 - 1 := by decide
theorem witness_ClipIsTheCubicWithinOneLsb : -2 ^ 23 + 1 ≤ (-8384513 : Int) ∧ (-8384513 : Int) ≤ 2 ^ 23 - 1 := by decide
theorem witness_OctaveLaw : (0x0C00 : Half).toInt = (0x0000 : Half).toInt + 12 * 256 := by decide
theorem witness_DecibelSignIsOctaveSign : (dbtoa 0xFFFF).2 < 0 ∧ (0xFFFF : Half).toInt < 0 := by decide +kernel
theorem witness_StepIsAFunctionOfPhasesAndParameters :
    let s := State.reset
    let s' : State := { s with res := 1, err := true, ecode := 3 }
    s ≠ s' ∧ s.phm = s'.phm ∧ s.phc = s'.phc ∧ s.act = s'.act ∧ s.fsHz = s'.fsHz := by decide +kernel
theorem witness_StepFromPhaseZeroOutputsZero : (engine 0x7FFF 0x4500 0x4500 0x3C00 0x0100 0x12345678 0).phc = 0 := rfl
theorem witness_DriveZeroIsAPureTone :
    (engine 0xFF00 0x4500 0 0 0 0 0).phc = 0 ∧ (engine 0xFF00 0x4500 0 0 0 0 0).act.drive = 0 := ⟨rfl, rfl⟩
/-- The run of 95_test_vectors.md S7, shortened. -/
theorem witness_BlockEquivalence :
    ∀ h ∈ ([0x40000000, 0x200E0000, 0x100D1234, 0x50005678, 0x10011111, 0x40000000] : List CmdWord).map HostInput.command,
      h.isReset = false ∧ h.isCommand .commit = false ∧ h.isStepError = false := by decide
theorem witness_OnlyTheNamedCommandsWrite :
    (presented [0x30000000]).input = .command 0x30000000 :: [] ∧
    (∃ t, step (presented [0x30000000]) = .next t) ∧ (HostInput.command 0x30000000).isReset = false :=
  ⟨rfl, ⟨_, rfl⟩, rfl⟩
theorem witness_FirstErrorIsKept :
    let s : State := { presented [0xA0000000] with err := true, ecode := 4 }
    (∃ t, step s = .next t) ∧ s.err = true ∧
    (∀ h, s.input.head? = some h → h.isReset = false ∧ h.isCommand .clrerr = false) := by
  refine ⟨⟨_, rfl⟩, rfl, fun h hh => ?_⟩
  cases hh
  decide
theorem witness_ReadsArePureAndWritesIdempotent :
    ¬ ((5 ≤ (0x15 : RegAddr).toNat ∧ (0x15 : RegAddr).toNat ≤ 7) ∨ 0x16 ≤ (0x15 : RegAddr).toNat) := by decide
theorem not_wr_drive {w : CmdWord} {i : Instr} (h : decode w = .command i) (hi : ∀ v, i ≠ .wr 0x04 v) (v' : Half) :
    (HostInput.command w).isCommand (.wr 0x04 v') = false := by
  simp only [HostInput.isCommand, h, beq_eq_false_iff_ne, ne_eq, Decoded.command.injEq]
  exact hi v'
theorem witness_WriteThenReadRoundTrip :
    ((0x04 : RegAddr).toNat ≤ 4 ∨ (0x04 : RegAddr).toNat = 0x0D) ∧
    ((0x0D : RegAddr).toNat ≤ 4 ∨ (0x0D : RegAddr).toNat = 0x0D) ∧
    ∀ h ∈ ([0x30000000, 0x40000000, 0x10031234] : List CmdWord).map HostInput.command,
      h.isReset = false ∧ ∀ v', h.isCommand (.wr 0x04 v') = false := by
  refine ⟨by decide, by decide, fun h hh => ?_⟩
  simp only [List.map, List.mem_cons, List.not_mem_nil, or_false] at hh
  rcases hh with rfl | rfl | rfl
  · exact ⟨rfl, not_wr_drive (i := .commit) (by decide) (by simp)⟩
  · exact ⟨rfl, not_wr_drive (i := .step) (by decide) (by simp)⟩
  · exact ⟨rfl, not_wr_drive (i := .wr 0x03 0x1234) (by decide) (by simp)⟩
theorem witness_SnapshotBetweenCommits :
    decode 0x30000000 = .command .commit ∧
    ∀ h ∈ ([0x10011111, 0x40000000] : List CmdWord).map HostInput.command,
      h.isReset = false ∧ h.isCommand .commit = false := by decide
theorem witness_SetallPublishesAllFive : (SourceLine.setall 0xFF00 0x4500 0 (-1) (-0x8000)).wellFormed = true := by decide
theorem witness_EveryStepKeepsLegalStates :
    (presented [0x40200000]).Legal ∧ ∃ t, step (presented [0x40200000]) = .next t :=
  ⟨⟨by decide +kernel, by decide, by decide, fun _ h => Output.noConfusion h⟩, _, rfl⟩
theorem witness_ResetIsLegal : 0 < 44100 := by decide
theorem witness_ResetEdge : (⟨true, true, 0⟩ : PortsIn).rst = true ∧ (⟨false, true, 0⟩ : PortsIn).rst = false := by decide
theorem witness_PortsRefineTheCommandLevel :
    ({ State.reset with out := 5, pulse := .smp 5 } : State).SamplePulseIsOut := fun o h => by
  cases h
  rfl
theorem witness_AcceptedCommandCompletesInTime :
    acceptedWord PortState.reset ⟨false, true, 0x40000000⟩ = some 0x40000000 ∧
    (∀ j ∈ List.replicate Config.latCmdMax (⟨false, false, 0⟩ : PortsIn), j.rst = false) ∧
    Config.latCmdMax ≤ (List.replicate Config.latCmdMax (⟨false, false, 0⟩ : PortsIn)).length := by
  refine ⟨rfl, fun j hj => ?_, by simp⟩
  rw [List.eq_of_mem_replicate hj]
theorem witness_AcceptanceNeedsReadyAndValid :
    acceptedWord PortState.reset ⟨false, true, 0x40000000⟩ = some 0x40000000 := rfl

end Sys2Proof.Tests
end

/-! What an accepted word can do, said once, and from it the statements about the state: the legal states and who
writes which register; then the register map's layouts, reset and acceptance (10_state.md). -/

namespace Sys2Proof.Machine

/-! ### What an accepted word can do -/

/-- What an illegal word does is one command error; the only sample it can emit is the unchanged `OUT`
(60_exceptions.md R303). -/
theorem illegalWord_eq_commandError (e : Illegal) (s : State) :
    ∃ c o, s.illegalWord e = s.commandError c o ∧ ∀ x, o = .smp x → x = s.out := by
  cases e with
  | illegalOpcode => exact ⟨_, _, rfl, nofun⟩
  | reservedField op =>
    refine ⟨_, _, rfl, fun x hx => ?_⟩
    split_ifs at hx
    cases hx
    rfl

/-- The states an accepted word can lead to, one constructor for each way a word can act: the word it takes, and the shared
operations of the model it comes to (44_host_commands.md R200; 60_exceptions.md R301, R302). -/
inductive WordEffect (w : CmdWord) (s : State) : State → Prop where
  | nop (hw : decode w = .command .nop) : WordEffect w s (s.emit .none)
  | wrStaging {a : RegAddr} {v : Half} {i : ParamIdx} (hw : decode w = .command (.wr a v)) (ha : a.toNat ≤ 4) :
      WordEffect w s ((s.writeStaging i v).emit .none)
  | wrOph {v : Half} (hw : decode w = .command (.wr 0x0D v)) : WordEffect w s ((s.writeOph v).emit .none)
  | wrError {a : RegAddr} {v : Half} {c : CmdError} (hw : decode w = .command (.wr a v))
      (ha : ¬ (a.toNat ≤ 4 ∨ a.toNat = 0x0D)) : WordEffect w s (s.commandError c .none)
  | rd {a : RegAddr} {d : Half} (hw : decode w = .command (.rd a)) : WordEffect w s (s.emit (.rsp d))
  | rdError {a : RegAddr} (hw : decode w = .command (.rd a)) (ha : (5 ≤ a.toNat ∧ a.toNat ≤ 7) ∨ 0x16 ≤ a.toNat) :
      WordEffect w s (s.commandError .badAddress (.rsp 0))
  | commit (hw : decode w = .command .commit) : WordEffect w s (s.publish.emit .none)
  | step {phm phc : Phase} {o : Wide} (hw : decode w = .command .step) : WordEffect w s (s.writeSample phm phc o)
  | functionUnit {r : Wide} (hw : ∃ v, decode w = .command (.sine v) ∨ decode w = .command (.clip v) ∨
      decode w = .command (.mtof v) ∨ decode w = .command (.dbtoa v)) : WordEffect w s ((s.writeRes r).emit .none)
  | clrerr (hw : decode w = .command .clrerr) : WordEffect w s (s.clearError.emit .none)
  | illegal {e : Illegal} {c : CmdError} {o : Output} (hw : decode w = .illegal e) (ho : ∀ x, o = .smp x → x = s.out) :
      WordEffect w s (s.commandError c o)

/-- `WR` acts by the kind of its address (44_host_commands.md R201 to R203). -/
theorem writeReg_effect {w : CmdWord} {a : RegAddr} {v : Half} (hw : decode w = .command (.wr a v)) (s : State) :
    WordEffect w s (writeReg a v s) := by
  rcases writeReg_cases a v s with ⟨i, hi, h⟩ | ⟨hoph, h⟩ | ⟨hun, h⟩ | ⟨-, hoph, hstg, h⟩
  · exact h ▸ .wrStaging hw ((regAt_stg_iff a).mp ⟨i, hi⟩)
  · have ha : a = 0x0D := BitVec.eq_of_toNat_eq ((regAt_oph_iff a).mp hoph)
    exact h ▸ .wrOph (ha ▸ hw)
  · have ha := (regAt_unmapped_iff a).mp hun
    exact h ▸ .wrError hw (by omega)
  · have hnot : ¬ (a.toNat ≤ 4 ∨ a.toNat = 0x0D) := by
      rw [← regAt_stg_iff, ← regAt_oph_iff]
      exact fun ha => ha.elim (fun ⟨i, hi⟩ => hstg i hi) hoph
    exact h ▸ .wrError hw hnot

/-- `RD` answers the register, or records an unmapped address (44_host_commands.md R204, R205). -/
theorem execRd_effect {w : CmdWord} {a : RegAddr} (hw : decode w = .command (.rd a)) {s t : State}
    (h : execRd a s = .next t) : WordEffect w s t := by
  rcases execRd_cases a s with ⟨d, -, hd⟩ | ⟨hnone, hd⟩ <;> cases hd.symm.trans h
  · exact .rd hw
  · exact .rdError hw ((regAt_unmapped_iff a).mp ((readReg_eq_none_iff s a).mp hnone))

/-- A command acts as its row says (44_host_commands.md R200). -/
theorem exec_effect {w : CmdWord} {i : Instr} (hw : decode w = .command i) {s t : State} (h : exec i s = .next t) :
    WordEffect w s t := by
  cases i with
  | rd a => exact execRd_effect hw h
  | wr a v => cases h; exact writeReg_effect hw s
  | nop => cases h; exact .nop hw
  | commit => cases h; exact .commit hw
  | step => cases h; exact .step hw
  | sine v => cases h; exact .functionUnit ⟨v, .inl hw⟩
  | clip v => cases h; exact .functionUnit ⟨v, .inr (.inl hw)⟩
  | mtof v => cases h; exact .functionUnit ⟨v, .inr (.inr (.inl hw))⟩
  | dbtoa v => cases h; exact .functionUnit ⟨v, .inr (.inr (.inr hw))⟩
  | clrerr => cases h; exact .clrerr hw

/-- Every accepted word, legal or not, has one of the effects. -/
theorem acceptWord_effect {w : CmdWord} {s t : State} (h : acceptWord w s = .next t) : WordEffect w s t := by
  cases hw : decode w with
  | command i => exact exec_effect hw ((acceptWord_command hw s).symm.trans h)
  | illegal e =>
    obtain ⟨c, o, hco, ho⟩ := illegalWord_eq_commandError e s
    cases (acceptWord_illegal hw s).symm.trans h
    exact hco ▸ .illegal hw ho

/-! ### The legal states -/

/-- The codes of the command errors are 1 to 4 (60_exceptions.md R301). -/
theorem CmdError.code_bounds (c : CmdError) : 1 ≤ c.code.toNat ∧ c.code.toNat ≤ 4 := by
  cases c <;> decide

section
variable {s : State}

/-- What the host presents next is no part of legality. -/
theorem State.Legal.withInput (h : s.Legal) (hs : List HostInput) : ({ s with input := hs } : State).Legal := h

theorem State.Legal.emit (h : s.Legal) {o : Output} (ho : ∀ x, o = .smp x → x = s.out) : (s.emit o).Legal := by
  obtain ⟨hfs, herr, hsnap, -⟩ := h
  exact ⟨hfs, herr, hsnap, ho⟩

/-- A first error is recorded with its code; a later one keeps the code there is (60_exceptions.md R302). -/
theorem State.Legal.raise (h : s.Legal) (c : CmdError) : (s.raise c).Legal := by
  obtain ⟨hfs, ⟨-, hcode⟩, hsnap, hpulse⟩ := h
  have hraised : (s.raise c).ErrorRecordLegal := by
    refine ⟨nofun, fun _ => ?_⟩
    cases hs : s.err with
    | true => simpa [State.raise, hs] using hcode hs
    | false => simpa [State.raise, hs] using c.code_bounds
  exact ⟨hfs, hraised, hsnap, hpulse⟩

theorem State.Legal.commandError (h : s.Legal) (c : CmdError) {o : Output} (ho : ∀ x, o = .smp x → x = s.out) :
    (s.commandError c o).Legal :=
  (h.raise c).emit ho

theorem State.Legal.clearError (h : s.Legal) : s.clearError.Legal := by
  obtain ⟨hfs, -, hsnap, hpulse⟩ := h
  exact ⟨hfs, ⟨fun _ => rfl, nofun⟩, hsnap, hpulse⟩

/-- A staged value makes PEND 1, so the two sets may differ (10_state.md R29). -/
theorem State.Legal.writeStaging (h : s.Legal) (i : ParamIdx) (v : Half) : (s.writeStaging i v).Legal := by
  obtain ⟨hfs, herr, -, hpulse⟩ := h
  exact ⟨hfs, herr, nofun, hpulse⟩

theorem State.Legal.writeOph (h : s.Legal) (v : Half) : (s.writeOph v).Legal := h

theorem State.Legal.writeRes (h : s.Legal) (v : Wide) : (s.writeRes v).Legal := h

/-- `COMMIT` makes the two sets equal (44_host_commands.md R208). -/
theorem State.Legal.publish (h : s.Legal) : s.publish.Legal := by
  obtain ⟨hfs, herr, -, hpulse⟩ := h
  exact ⟨hfs, herr, fun _ => rfl, hpulse⟩

/-- `STEP` emits the sample it writes to `OUT` (43_engine_step.md R188). -/
theorem State.Legal.writeSample (h : s.Legal) (phm phc : Phase) (o : Wide) : (s.writeSample phm phc o).Legal := by
  obtain ⟨hfs, herr, hsnap, -⟩ := h
  exact ⟨hfs, herr, hsnap, fun _ hx => (Output.smp.inj hx).symm⟩

/-- Every effect of a word keeps the legal states. -/
theorem WordEffect.legal {w : CmdWord} {t : State} (h : WordEffect w s t) (hs : s.Legal) : t.Legal := by
  cases h with
  | nop => exact hs.emit nofun
  | wrStaging => exact (hs.writeStaging _ _).emit nofun
  | wrOph => exact (hs.writeOph _).emit nofun
  | wrError => exact hs.commandError _ nofun
  | rd => exact hs.emit nofun
  | rdError => exact hs.commandError _ nofun
  | commit => exact hs.publish.emit nofun
  | step => exact hs.writeSample _ _ _
  | functionUnit => exact (hs.writeRes _).emit nofun
  | clrerr => exact hs.clearError.emit nofun
  | illegal _ ho => exact hs.commandError _ ho

end

theorem State.resetAt_legal {fs : Nat} (hfs : 0 < fs) : (State.resetAt fs).Legal :=
  ⟨hfs, ⟨fun _ => rfl, nofun⟩, fun _ => rfl, nofun⟩

theorem State.Legal.afterReset {s : State} (h : s.Legal) : s.afterReset.Legal := by
  obtain ⟨hfs, -⟩ := h
  exact (State.resetAt_legal hfs).withInput s.input

/-- Settles O54. -/
theorem resetIsLegal : Obligations.ResetIsLegal :=
  ⟨State.resetAt_legal (by decide), fun _ hfs => State.resetAt_legal hfs⟩

/-- Settles O53: the host's next input is nothing, a reset, or a word, and each keeps the legal states. -/
theorem everyStepKeepsLegalStates : Obligations.EveryStepKeepsLegalStates := by
  intro s t hs h
  have hs' : s.takeInput.Legal := hs.withInput _
  cases hin : s.input with
  | nil => cases (step_nil hin).symm.trans h; exact hs'.emit nofun
  | cons x rest =>
    cases x with
    | reset => cases (step_reset hin).symm.trans h; exact hs'.afterReset
    | command w => exact (acceptWord_effect ((step_command hin).symm.trans h)).legal hs'

/-! ### Who writes which register

One lemma per register: each names the effects that can change it, and every other effect leaves it as it is. -/

section
variable {w : CmdWord} {s t : State}

/-- No word changes the sample rate or what the host presents next. -/
theorem WordEffect.fsHz_input_kept (h : WordEffect w s t) : t.fsHz = s.fsHz ∧ t.input = s.input := by
  cases h <;> exact ⟨rfl, rfl⟩

theorem WordEffect.step_of_sample_changed (h : WordEffect w s t)
    (hne : t.phc ≠ s.phc ∨ t.phm ≠ s.phm ∨ t.out ≠ s.out) : decode w = .command .step := by
  cases h with
  | step hw => exact hw
  | _ => rcases hne with hne | hne | hne <;> exact absurd rfl hne

theorem WordEffect.commit_of_act_changed (h : WordEffect w s t) (hne : t.act ≠ s.act) :
    decode w = .command .commit := by
  cases h with
  | commit hw => exact hw
  | _ => exact absurd rfl hne

theorem WordEffect.wr_of_stg_changed (h : WordEffect w s t) (hne : t.stg ≠ s.stg) :
    ∃ a v, a.toNat ≤ 4 ∧ decode w = .command (.wr a v) := by
  cases h with
  | wrStaging hw ha => exact ⟨_, _, ha, hw⟩
  | _ => exact absurd rfl hne

theorem WordEffect.wr_of_oph_changed (h : WordEffect w s t) (hne : t.oph ≠ s.oph) :
    ∃ v, decode w = .command (.wr 0x0D v) := by
  cases h with
  | wrOph hw => exact ⟨_, hw⟩
  | _ => exact absurd rfl hne

theorem WordEffect.functionUnit_of_res_changed (h : WordEffect w s t) (hne : t.res ≠ s.res) :
    ∃ v, decode w = .command (.sine v) ∨ decode w = .command (.clip v) ∨ decode w = .command (.mtof v) ∨
      decode w = .command (.dbtoa v) := by
  cases h with
  | functionUnit hw => exact hw
  | _ => exact absurd rfl hne

theorem WordEffect.commit_or_wr_of_pend_changed (h : WordEffect w s t) (hne : t.pend ≠ s.pend) :
    decode w = .command .commit ∨ ∃ a v, a.toNat ≤ 4 ∧ decode w = .command (.wr a v) := by
  cases h with
  | commit hw => exact .inl hw
  | wrStaging hw ha => exact .inr ⟨_, _, ha, hw⟩
  | _ => exact absurd rfl hne

theorem WordEffect.cause_of_error_changed (h : WordEffect w s t) (hne : t.err ≠ s.err ∨ t.ecode ≠ s.ecode) :
    decode w = .command .clrerr ∨ (∃ e, decode w = .illegal e) ∨
    (∃ a v, ¬ (a.toNat ≤ 4 ∨ a.toNat = 0x0D) ∧ decode w = .command (.wr a v)) ∨
    (∃ a, ((5 ≤ a.toNat ∧ a.toNat ≤ 7) ∨ 0x16 ≤ a.toNat) ∧ decode w = .command (.rd a)) := by
  cases h with
  | clrerr hw => exact .inl hw
  | illegal hw => exact .inr (.inl ⟨_, hw⟩)
  | wrError hw ha => exact .inr (.inr (.inl ⟨_, _, ha, hw⟩))
  | rdError hw ha => exact .inr (.inr (.inr ⟨_, ha, hw⟩))
  | _ => rcases hne with hne | hne <;> exact absurd rfl hne

end

theorem isCommand_command_iff (w : CmdWord) (i : Instr) :
    (HostInput.command w).isCommand i = true ↔ decode w = .command i :=
  beq_iff_eq

/-- Settles O44: the input is a word, and each clause is the lemma of its register. -/
theorem onlyTheNamedCommandsWrite : Obligations.OnlyTheNamedCommandsWrite := by
  intro s t x rest hin hstep hreset
  cases x with
  | reset => cases hreset
  | command w =>
    have he : WordEffect w s.takeInput t := acceptWord_effect ((step_command hin).symm.trans hstep)
    obtain ⟨hfs, hinput⟩ := he.fsHz_input_kept
    have hrest : t.input = rest := by simp [hinput, hin]
    simp only [isCommand_command_iff]
    refine ⟨hfs, hrest, he.step_of_sample_changed, he.commit_of_act_changed, he.wr_of_stg_changed,
      he.wr_of_oph_changed, he.functionUnit_of_res_changed, he.commit_or_wr_of_pend_changed, fun hne => ?_⟩
    rcases he.cause_of_error_changed hne with hclr | ⟨e, hill⟩ | hcause
    · exact .inl hclr
    · exact .inr (.inl ⟨w, e, rfl, hill⟩)
    · exact .inr (.inr hcause)

/-! ### Reset -/

@[simp] theorem Params.zero_get (i : ParamIdx) : Params.zero.get i = 0 := by
  cases i <;> rfl

/-- Settles O11. -/
theorem everyFieldIsZeroAfterReset : Obligations.EveryFieldIsZeroAfterReset := by
  intro fs
  simp

/-! ### Reads of OUT and STATUS -/

/-- `RD` of a mapped address answers its value and changes no register (44_host_commands.md R204). -/
theorem exec_rd_of_readReg {s : State} {a : RegAddr} {d : Half} (h : readReg s a = some d) :
    exec (.rd a) s = .next { s with pulse := .rsp d } := by
  rcases execRd_cases a s with ⟨d', hd', hexec⟩ | ⟨hnone, -⟩
  · cases hd'.symm.trans h
    exact hexec
  · cases hnone.symm.trans h

/-- The three parts of a 48-bit register, the lowest last, are the register (20_memory.md R53). -/
theorem widePart_append (v : Wide) : widePart v 2 ++ widePart v 1 ++ widePart v 0 = v := by
  apply BitVec.eq_of_toNat_eq
  have hv := v.isLt
  simp only [append_toNat, widePart, BitVec.extractLsb'_toNat, Nat.shiftRight_eq_div_pow]
  omega

/-- Settles O48. -/
theorem outPartsAreOut : Obligations.OutPartsAreOut := fun s =>
  ⟨_, _, _, exec_rd_of_readReg rfl, exec_rd_of_readReg rfl, exec_rd_of_readReg rfl, (widePart_append s.out).symm⟩

theorem flagValue_le_one (b : Bool) : flagValue b ≤ 1 := by
  cases b <;> decide

/-- The sum of 10_state.md R29 fits its 16 bits. -/
theorem statusWord_toNat (s : State) :
    (statusWord s).toNat = flagValue s.pend + 2 * flagValue s.err + 16 * s.ecode.toNat := by
  have hpend := flagValue_le_one s.pend
  have herr := flagValue_le_one s.err
  have hcode := s.ecode.isLt
  rw [statusWord, BitVec.toNat_ofNat]
  omega

/-- A bit of a register as a quotient and a remainder. -/
theorem getLsbD_eq_of_flagValue {x : Half} {k : Nat} {b : Bool} (h : x.toNat / 2 ^ k % 2 = flagValue b) :
    x.getLsbD k = b := by
  rw [BitVec.getLsbD, Nat.testBit_eq_decide_div_mod_eq, h]
  cases b <;> rfl

/-- A bit field of a register as a quotient and a remainder. -/
theorem extractLsb'_eq_of_div_mod {x : Half} {k n : Nat} {f : BitVec n} (h : x.toNat / 2 ^ k % 2 ^ n = f.toNat) :
    x.extractLsb' k n = f := by
  apply BitVec.eq_of_toNat_eq
  rw [BitVec.extractLsb'_toNat, Nat.shiftRight_eq_div_pow, h]

/-- Settles O49: each field is a quotient and a remainder of the sum. -/
theorem statusLayout : Obligations.StatusLayout := by
  intro s
  have hpend := flagValue_le_one s.pend
  have herr := flagValue_le_one s.err
  have hcode := s.ecode.isLt
  have hsum := statusWord_toNat s
  refine ⟨statusWord s, exec_rd_of_readReg rfl, getLsbD_eq_of_flagValue (by omega), getLsbD_eq_of_flagValue (by omega),
    extractLsb'_eq_of_div_mod ?_, extractLsb'_eq_of_div_mod (by omega), extractLsb'_eq_of_div_mod ?_⟩
  · change (statusWord s).toNat / 2 ^ 2 % 2 ^ 2 = 0
    omega
  · change (statusWord s).toNat / 2 ^ 8 % 2 ^ 8 = 0
    omega

/-! ### Acceptance at the ports -/

/-- Settles O59. -/
theorem acceptanceNeedsReadyAndValid : Obligations.AcceptanceNeedsReadyAndValid := by
  intro p i w
  have hready : (i.cmdValid && (portsOut p i).cmdReady) = true ↔
      i.cmdValid = true ∧ i.rst = false ∧ p.busy = none := by
    simp
  unfold acceptedWord
  split_ifs with h
  · simp [hready.mp h, eq_comm]
  · constructor
    · intro hw; cases hw
    · rintro ⟨hvalid, hrst, hbusy, -⟩
      exact absurd (hready.mpr ⟨hvalid, hrst, hbusy⟩) h

end Sys2Proof.Machine

/-! The word presented and the run of inputs, reads and writes of registers, and the snapshot (20_memory.md): every input
has a next state, which does not depend on what the host presents after it. -/

namespace Sys2Proof.Machine

/-! ### Every input has a next state -/

theorem exec_total (i : Instr) (s : State) : ∃ t, exec i s = .next t := by
  cases i with
  | rd a => rcases execRd_cases a s with ⟨d, -, h⟩ | ⟨-, h⟩ <;> exact ⟨_, h⟩
  | _ => exact ⟨_, rfl⟩

theorem acceptWord_total (w : CmdWord) (s : State) : ∃ t, acceptWord w s = .next t := by
  cases hw : decode w with
  | command i => exact acceptWord_command hw s ▸ exec_total i s
  | illegal e => exact ⟨_, acceptWord_illegal hw s⟩

theorem acceptWord_eq_after (w : CmdWord) (s : State) : acceptWord w s = .next (s.after (.command w)) := by
  obtain ⟨t, ht⟩ := acceptWord_total w s
  rw [State.after_command w s t ht, ht]

theorem acceptInput_eq_after (h : HostInput) (s : State) : acceptInput (some h) s = .next (s.after h) := by
  cases h with
  | reset => rfl
  | command w => exact acceptWord_eq_after w s

/-- What a word leaves behind is one of its effects. -/
theorem after_effect (w : CmdWord) (s : State) : WordEffect w s (s.after (.command w)) :=
  acceptWord_effect (acceptWord_eq_after w s)

/-! ### No input reads or writes what the host presents next

The list `State.input` is the model's own (log 2); each lemma replaces it before and after an operation. -/

theorem readReg_withInput (s : State) (a : RegAddr) (l : List HostInput) :
    readReg { s with input := l } a = readReg s a := rfl

theorem writeReg_withInput (a : RegAddr) (v : Half) (s : State) (l : List HostInput) :
    writeReg a v { s with input := l } = { writeReg a v s with input := l } := by
  unfold writeReg
  cases regAt a <;> rfl

/-- `RD` of an unmapped address records the error and answers 0 (44_host_commands.md R205). -/
theorem exec_rd_of_readReg_none {s : State} {a : RegAddr} (h : readReg s a = none) :
    exec (.rd a) s = .next (s.commandError .badAddress (.rsp 0)) := by
  rcases execRd_cases a s with ⟨d, hd, -⟩ | ⟨-, hexec⟩
  · cases hd.symm.trans h
  · exact hexec

theorem exec_withInput {i : Instr} {s t : State} (h : exec i s = .next t) (l : List HostInput) :
    exec i { s with input := l } = .next { t with input := l } := by
  cases i with
  | wr a v => cases h; exact congrArg Host.Outcome.next (writeReg_withInput a v s l)
  | rd a =>
    have hread := readReg_withInput s a l
    rcases execRd_cases a s with ⟨d, hd, hrd⟩ | ⟨hnone, hrd⟩ <;> cases hrd.symm.trans h
    · exact exec_rd_of_readReg (hread.trans hd)
    · exact exec_rd_of_readReg_none (hread.trans hnone)
  | _ => cases h; rfl

theorem after_withInput (h : HostInput) (s : State) (l : List HostInput) :
    ({ s with input := l } : State).after h = { s.after h with input := l } := by
  cases h with
  | reset => rfl
  | command w =>
    cases hw : decode w with
    | illegal e =>
      rw [State.after_illegal hw, State.after_illegal hw]
      cases e <;> rfl
    | command i =>
      obtain ⟨t, ht⟩ := exec_total i s
      rw [State.after_instr hw ht, State.after_instr hw (exec_withInput ht l)]

/-! ### The inputs run in order -/

/-- Settles O7. -/
theorem stepRunsTheDecodedCommand : Obligations.StepRunsTheDecodedCommand := by
  intro s w rest hin
  have hstep : step s = acceptWord w { s with input := rest } := by
    rw [step_command hin, takeInput_cons hin]
  exact ⟨hstep, fun _ hw => hstep.trans (acceptWord_command hw _), fun _ hw => hstep.trans (acceptWord_illegal hw _)⟩

/-- A step with an input presented is that input, taken from the list (20_memory.md R58). -/
theorem step_presented (h : HostInput) (hs : List HostInput) (s : State) :
    step { s with input := h :: hs } = .next { s.after h with input := hs } := by
  rw [← after_withInput]
  exact acceptInput_eq_after h { s with input := hs }

theorem run_succ_of_step {s t : State} (h : step s = .next t) (k : Nat) :
    Host.Core.run Sys2Proof.core (k + 1) s = Host.Core.run Sys2Proof.core k t := by
  have hcore : Sys2Proof.core.step s = .next t := h
  simp only [Host.Core.run, hcore]

/-- Settles O13, by induction on the inputs: each step takes the first of them. -/
theorem inputsRunInOrder : Obligations.InputsRunInOrder := by
  intro hs
  induction hs with
  | nil => exact fun _ => rfl
  | cons h hs ih => exact fun s => (run_succ_of_step (step_presented h hs s) hs.length).trans (ih (s.after h))

/-! ### Reads change nothing, writes are idempotent -/

/-- A mapped address has a value (10_state.md R32). -/
theorem readReg_of_mapped (s : State) {a : RegAddr} (ha : ¬ ((5 ≤ a.toNat ∧ a.toNat ≤ 7) ∨ 0x16 ≤ a.toNat)) :
    ∃ d, readReg s a = some d := by
  rw [← regAt_unmapped_iff, ← readReg_eq_none_iff s] at ha
  exact Option.ne_none_iff_exists'.mp ha

theorem Params.set_set_same (p : Params) (i : ParamIdx) (v : Half) : (p.set i v).set i v = p.set i v := by
  cases i <;> rfl

theorem State.writeStaging_idem (s : State) (i : ParamIdx) (v : Half) (o : Output) :
    (((s.writeStaging i v).emit o).writeStaging i v).emit o = (s.writeStaging i v).emit o := by
  simp [State.writeStaging, State.emit, Params.set_set_same]

/-- The second of two equal errors finds ERR set and keeps the code (60_exceptions.md R302). -/
theorem State.commandError_idem (s : State) (c : CmdError) (o : Output) :
    (s.commandError c o).commandError c o = s.commandError c o := rfl

/-- A write of any kind, to a register or in error, done twice leaves what it leaves done once (20_memory.md R56). -/
theorem writeReg_idem (a : RegAddr) (v : Half) (s : State) : writeReg a v (writeReg a v s) = writeReg a v s := by
  unfold writeReg
  cases regAt a with
  | stg i => exact s.writeStaging_idem i v .none
  | oph => rfl
  | unmapped => exact s.commandError_idem .badAddress .none
  | _ => exact s.commandError_idem .readOnly .none

/-- Settles O46. -/
theorem readsArePureAndWritesIdempotent : Obligations.ReadsArePureAndWritesIdempotent := by
  constructor
  · intro s a ha
    obtain ⟨d, hd⟩ := readReg_of_mapped s ha
    exact ⟨d, exec_rd_of_readReg hd⟩
  · exact fun s a v => ⟨writeReg a v s, rfl, congrArg Host.Outcome.next (writeReg_idem a v s)⟩

/-! ### The snapshot -/

/-- What every input of a run keeps, the run keeps. -/
theorem runInputs_keeps {P : State → Prop} {hs : List HostInput} (hkeep : ∀ h ∈ hs, ∀ s, P s → P (s.after h))
    {s : State} (hP : P s) : P (runInputs hs s) := by
  induction hs generalizing s with
  | nil => exact hP
  | cons h hs ih =>
    obtain ⟨hhead, htail⟩ := List.forall_mem_cons.mp hkeep
    exact ih htail (hhead s hP)

/-- The active parameters stay as they are under every input but `COMMIT` and reset (10_state.md R25). -/
theorem after_act_kept {h : HostInput} (hreset : h.isReset = false) (hcommit : h.isCommand .commit = false) (s : State) :
    (s.after h).act = s.act := by
  cases h with
  | reset => cases hreset
  | command w =>
    by_contra hne
    have hw := (isCommand_command_iff w .commit).mpr ((after_effect w s).commit_of_act_changed hne)
    cases hcommit.symm.trans hw

/-- Settles O50: the `COMMIT` publishes the staging values, and the inputs after it keep the active ones. -/
theorem snapshotBetweenCommits : Obligations.SnapshotBetweenCommits := by
  intro s w hs hw hbetween
  have hpublish : (s.after (.command w)).act = s.stg := by
    rw [State.after_instr hw rfl]
    rfl
  rw [runInputs_cons]
  refine runInputs_keeps (P := fun t => t.act = s.stg) (fun h hh t ht => ?_) hpublish
  obtain ⟨hreset, hcommit⟩ := hbetween h hh
  exact (after_act_kept hreset hcommit t).trans ht

end Sys2Proof.Machine

/-! The command words (30_encoding.md): the fields of a command and of its word, what the decoder answers, the rows of the
opcode map, the words of the assembler's lines, and what illegal words and `SETALL` do to the state. -/

namespace Sys2Proof

/-! ### The fields of a command -/

/-- The opcode of a command (30_encoding.md R74). -/
def Instr.opcode : Instr → BitVec 4
  | .nop => 0x0
  | .wr _ _ => 0x1
  | .rd _ => 0x2
  | .commit => 0x3
  | .step => 0x4
  | .sine _ => 0x5
  | .clip _ => 0x6
  | .mtof _ => 0x7
  | .dbtoa _ => 0x8
  | .clrerr => 0x9

/-- A defined opcode gives a command of that opcode (30_encoding.md R78). -/
theorem opcode_of_commandOf {op : BitVec 4} {a : RegAddr} {v : Half} {i : Instr} (h : commandOf op a v = some i) :
    i.opcode = op := by
  apply BitVec.eq_of_toNat_eq
  unfold commandOf at h
  split at h <;> cases h <;> exact Eq.symm (by assumption)

/-- Whatever the free fields hold, the opcode of a command gives a command of the same row (30_encoding.md R72, R74). -/
theorem exists_commandOf_opcode (j : Instr) (a : RegAddr) (v : Half) :
    ∃ i, commandOf j.opcode a v = some i ∧ opcodeRow i = opcodeRow j := by
  cases j <;> exact ⟨_, rfl, rfl⟩

theorem exists_commandOf_iff (op : BitVec 4) (a : RegAddr) (v : Half) :
    (∃ i, commandOf op a v = some i) ↔ op.toNat < 10 := by
  rw [← Option.ne_none_iff_exists', ne_eq, commandOf_eq_none_iff, not_le]

/-! ### The fields of a word -/

/-- A word is its four fields (30_encoding.md R71). -/
theorem assembleFields_fields (w : CmdWord) :
    assembleFields (opField w) (rsvField w) (addrField w) (immField w) = w := by
  apply BitVec.eq_of_toNat_eq
  rw [assembleFields_toNat, opField_toNat, rsvField_toNat, addrField_toNat, immField_toNat]
  omega

theorem assembleFields_and (op op' : BitVec 4) (rsv rsv' : BitVec 7) (a a' : RegAddr) (v v' : Half) :
    assembleFields op rsv a v &&& assembleFields op' rsv' a' v' =
      assembleFields (op &&& op') (rsv &&& rsv') (a &&& a') (v &&& v') := by
  change (op ++ rsv ++ a ++ v : BitVec (4 + 7 + 5 + 16)) &&& (op' ++ rsv' ++ a' ++ v') = _
  rw [BitVec.and_append, BitVec.and_append, BitVec.and_append]
  rfl

theorem opField_eq_iff (w : CmdWord) (op : BitVec 4) : opField w = op ↔ w.toNat / 2 ^ 28 = op.toNat := by
  rw [← BitVec.toNat_inj, opField_toNat]

theorem rsvField_eq_zero_iff (w : CmdWord) : rsvField w = 0 ↔ w.toNat / 2 ^ 21 % 128 = 0 := by
  rw [← BitVec.toNat_inj, rsvField_toNat]
  rfl

/-! ### What the decoder answers (30_encoding.md R75 to R78) -/

theorem decode_eq_command_iff (w : CmdWord) (i : Instr) :
    decode w = .command i ↔ commandOf (opField w) (addrField w) (immField w) = some i ∧ rsvField w = 0 := by
  rcases decode_cases w with ⟨hc, hd⟩ | ⟨j, hc, hr, hd⟩ | ⟨j, hc, hr, hd⟩
  · simp [hc, hd]
  · simp [hc, hd, hr]
  · simpa [hc, hd] using fun _ => hr

theorem decode_eq_illegalOpcode_iff (w : CmdWord) :
    decode w = .illegal .illegalOpcode ↔ 10 ≤ (opField w).toNat := by
  rw [← commandOf_eq_none_iff (opField w) (addrField w) (immField w)]
  rcases decode_cases w with ⟨hc, hd⟩ | ⟨j, hc, hr, hd⟩ | ⟨j, hc, hr, hd⟩ <;> simp [hc, hd]

theorem decode_eq_reservedField_iff (w : CmdWord) (op : BitVec 4) :
    decode w = .illegal (.reservedField op) ↔ (opField w).toNat < 10 ∧ rsvField w ≠ 0 ∧ opField w = op := by
  rw [← exists_commandOf_iff (opField w) (addrField w) (immField w)]
  rcases decode_cases w with ⟨hc, hd⟩ | ⟨j, hc, hr, hd⟩ | ⟨j, hc, hr, hd⟩
  · simp [hc, hd]
  · simp [hc, hd, hr]
  · simpa [hc, hd] using fun _ => hr

theorem exists_decode_eq_command_iff (w : CmdWord) :
    (∃ i, decode w = .command i) ↔ (opField w).toNat < 10 ∧ rsvField w = 0 := by
  simp only [decode_eq_command_iff, exists_and_right, exists_commandOf_iff]

/-- A word assembled with `rsv` zero is the command of its opcode, its other fields the operands (30_encoding.md R72). -/
theorem decode_assembleFields {op : BitVec 4} {a : RegAddr} {v : Half} {i : Instr} (h : commandOf op a v = some i) :
    decode (assembleFields op 0 a v) = .command i := by
  simpa [decode_eq_command_iff] using h

theorem decode_encode (i : Instr) : decode (encode i) = .command i := by
  cases i <;> exact decode_assembleFields rfl

/-- Settles O1. -/
theorem decodeOfEncodeIsTheCommand : Obligations.DecodeOfEncodeIsTheCommand :=
  decode_encode

/-- Settles O2: each class of words by its own lemma, its fields read as numbers. -/
theorem wordClassByOpcodeAndReservedField : Obligations.WordClassByOpcodeAndReservedField := by
  intro w
  refine ⟨?_, fun op => ?_, ?_⟩
  · rw [decode_eq_illegalOpcode_iff, opField_toNat]
  · rw [decode_eq_reservedField_iff, opField_toNat, ne_eq, rsvField_eq_zero_iff, opField_eq_iff, eq_comm (a := op.toNat)]
  · rw [exists_decode_eq_command_iff, opField_toNat, rsvField_eq_zero_iff]

/-- Settles O4: the ten opcodes by what `commandOf` gives each, and no command has a reserved field that is not zero. -/
theorem fieldsBecomeOperands : Obligations.FieldsBecomeOperands := by
  intro a v
  refine ⟨decode_assembleFields rfl, decode_assembleFields rfl, decode_assembleFields rfl, decode_assembleFields rfl,
    decode_assembleFields rfl, decode_assembleFields rfl, decode_assembleFields rfl, decode_assembleFields rfl,
    decode_assembleFields rfl, decode_assembleFields rfl, fun op rsv i hrsv hd => hrsv ?_⟩
  obtain ⟨-, hzero⟩ := (decode_eq_command_iff _ i).mp hd
  simpa using hzero

/-! ### The rows of the opcode map (30_encoding.md R74) -/

/-- The mask of every row keeps `op` and `rsv` and clears the free fields. -/
theorem and_rowMask (w : CmdWord) (i : Instr) :
    w &&& (opcodeRow i).mask = assembleFields (opField w) (rsvField w) 0 0 := by
  have hmask : (opcodeRow i).mask = assembleFields (BitVec.allOnes 4) (BitVec.allOnes 7) 0 0 := by
    cases i <;> rfl
  calc w &&& (opcodeRow i).mask
      = assembleFields (opField w) (rsvField w) (addrField w) (immField w) &&&
          assembleFields (BitVec.allOnes 4) (BitVec.allOnes 7) 0 0 := by rw [hmask, assembleFields_fields]
    _ = assembleFields (opField w) (rsvField w) 0 0 := by
        rw [assembleFields_and, BitVec.and_allOnes, BitVec.and_allOnes]
        simp

theorem opcodeRow_pattern (i : Instr) : (opcodeRow i).pattern = assembleFields i.opcode 0 0 0 := by
  apply BitVec.eq_of_toNat_eq
  rw [assembleFields_toNat]
  cases i <;> simp [opcodeRow, Instr.opcode]

/-- A word matches a row exactly when it has the row's opcode and its reserved field is zero. -/
theorem matchesWord_iff (i : Instr) (w : CmdWord) :
    (opcodeRow i).matchesWord w = true ↔ opField w = i.opcode ∧ rsvField w = 0 := by
  rw [OpcodeRow.matchesWord, beq_iff_eq, and_rowMask, opcodeRow_pattern]
  constructor
  · intro h
    have hop := congrArg opField h
    have hrsv := congrArg rsvField h
    rw [opField_assembleFields, opField_assembleFields] at hop
    rw [rsvField_assembleFields, rsvField_assembleFields] at hrsv
    exact ⟨hop, hrsv⟩
  · rintro ⟨hop, hrsv⟩
    rw [hop, hrsv]

/-- Settles O3: a matching word has the opcode of the row, so it decodes to a command of it; a command of the row
has the row's opcode, so its word matches. -/
theorem commandIffItMatchesItsRow : Obligations.CommandIffItMatchesItsRow := by
  intro w j
  constructor
  · intro hmatch
    obtain ⟨hop, hrsv⟩ := (matchesWord_iff j w).mp hmatch
    obtain ⟨i, hi, hrow⟩ := exists_commandOf_opcode j (addrField w) (immField w)
    exact ⟨i, (decode_eq_command_iff w i).mpr ⟨hop ▸ hi, hrsv⟩, hrow⟩
  · rintro ⟨i, hi, hrow⟩
    obtain ⟨hcommand, hrsv⟩ := (decode_eq_command_iff w i).mp hi
    rw [← hrow, matchesWord_iff]
    exact ⟨(opcode_of_commandOf hcommand).symm, hrsv⟩

end Sys2Proof

namespace Sys2Proof.Machine

/-! ### The operands of a line (30_encoding.md R79) -/

theorem immFits_iff (v : Int) : immFits v = true ↔ -0x8000 ≤ v ∧ v ≤ 0xFFFF :=
  decide_eq_true_iff

theorem longFits_iff (x : Int) : longFits x = true ↔ -0x80000000 ≤ x ∧ x ≤ 0xFFFFFFFF :=
  decide_eq_true_iff

theorem number_fits_iff (n : Int) : (RegOperand.number n).fits = true ↔ 0 ≤ n ∧ n ≤ 31 :=
  decide_eq_true_iff

/-- The number of an address is an operand that fits, and stands for that address (10_state.md R32). -/
theorem number_fits_of_addr (a : RegAddr) : (RegOperand.number a.toNat).fits = true := by
  have := a.isLt
  rw [number_fits_iff]
  omega

theorem regOperandAddr_number_addr (a : RegAddr) : regOperandAddr (.number a.toNat) = a :=
  BitVec.ofInt_natCast .. |>.trans (BitVec.ofNat_toNat ..) |>.trans (BitVec.setWidth_eq a)

theorem regOperandAddr_number_toNat {n : Int} (h0 : 0 ≤ n) (h31 : n ≤ 31) :
    ((regOperandAddr (.number n)).toNat : Int) = n := by
  rw [regOperandAddr, BitVec.toNat_ofInt]
  omega

theorem immPattern_toNat (v : Int) : ((immPattern v).toNat : Int) = v % 0x10000 := by
  rw [immPattern, BitVec.toNat_ofInt]
  omega

/-- The high half of a 32-bit operand is the pattern of its quotient by 2^16 (30_encoding.md R80). -/
theorem longHigh_eq_immPattern (x : Int) : longHigh x = immPattern (x / 0x10000) := by
  apply BitVec.eq_of_toNat_eq
  have h := immPattern_toNat (x / 0x10000)
  simp only [longHigh, BitVec.extractLsb'_toNat, BitVec.toNat_ofInt, Nat.shiftRight_eq_div_pow]
  omega

theorem longLow_eq_immPattern (x : Int) : longLow x = immPattern x := by
  apply BitVec.eq_of_toNat_eq
  have h := immPattern_toNat x
  simp only [longLow, BitVec.extractLsb'_toNat, BitVec.toNat_ofInt, Nat.shiftRight_eq_div_pow]
  omega

/-- A word as the table of R79 writes it: the opcode and the address in `k`, the immediate added modulo 2^16
(30_encoding.md R79). -/
theorem assembleFields_immPattern {op : BitVec 4} {a : RegAddr} {k : Int}
    (hk : k = op.toNat * 2 ^ 28 + a.toNat * 2 ^ 16) (v : Int) :
    assembleFields op 0 a (immPattern v) = BitVec.ofInt 32 (k + v % 0x10000) := by
  apply BitVec.eq_of_toNat_eq
  have hop := op.isLt
  have ha := a.isLt
  have hv := immPattern_toNat v
  have hzero : (0 : BitVec 7).toNat = 0 := rfl
  rw [assembleFields_toNat, BitVec.toNat_ofInt]
  omega

theorem assembleFields_zero_imm {op : BitVec 4} {a : RegAddr} {k : Int}
    (hk : k = op.toNat * 2 ^ 28 + a.toNat * 2 ^ 16) : assembleFields op 0 a 0 = BitVec.ofInt 32 k := by
  simpa [immPattern] using assembleFields_immPattern hk 0

/-! ### The words of a line (30_encoding.md R79, R80) -/

/-- A line of commands assembles to the words of its commands exactly when its operands fit. -/
theorem assembleLine_eq_ite (l : SourceLine) (hl : ∀ w, l ≠ .rawWord w) :
    assembleLine l = if l.wellFormed = true then some ((lineCommands l).map encode) else none := by
  cases l with
  | rawWord w => exact absurd rfl (hl w)
  | _ => rfl

theorem assembleLine_of_wellFormed {l : SourceLine} (hl : ∀ w, l ≠ .rawWord w) (h : l.wellFormed = true) :
    assembleLine l = some ((lineCommands l).map encode) := by
  rw [assembleLine_eq_ite l hl, if_pos h]

theorem assembleLine_eq_none {l : SourceLine} (h : ¬ l.wellFormed = true) : assembleLine l = none :=
  if_neg h

theorem assembleLine_rawWord (w : Int) :
    assembleLine (.rawWord w) = if 0 ≤ w ∧ w ≤ 0xFFFFFFFF then some [BitVec.ofInt 32 w] else none :=
  ite_congr (propext decide_eq_true_iff) (fun _ => rfl) (fun _ => rfl)

/-- Every word of a line of commands is a command. -/
theorem decode_of_mem_assembleLine {l : SourceLine} {ws : List CmdWord} (hl : ∀ w, l ≠ .rawWord w)
    (h : assembleLine l = some ws) {w : CmdWord} (hw : w ∈ ws) : ∃ i, decode w = .command i := by
  rw [assembleLine_eq_ite l hl] at h
  obtain ⟨-, hws⟩ := Option.ite_none_right_eq_some.mp h
  cases hws
  obtain ⟨i, -, rfl⟩ := List.mem_map.mp hw
  exact ⟨i, decode_encode i⟩

/-- A register by name assembles as by the number of its address (10_state.md R32). -/
theorem assembleLine_rd_name (r : RegName) :
    assembleLine (.rd (.name r)) = assembleLine (.rd (.number (regNameAddr r).toNat)) := by
  rw [assembleLine_eq_ite (.rd (.name r)) nofun, assembleLine_eq_ite (.rd (.number (regNameAddr r).toNat)) nofun]
  simp only [SourceLine.wellFormed, lineCommands, number_fits_of_addr, regOperandAddr_number_addr]
  rfl

theorem assembleLine_wr_name (r : RegName) (v : Int) :
    assembleLine (.wr (.name r) v) = assembleLine (.wr (.number (regNameAddr r).toNat) v) := by
  rw [assembleLine_eq_ite (.wr (.name r) v) nofun, assembleLine_eq_ite (.wr (.number (regNameAddr r).toNat) v) nofun]
  simp only [SourceLine.wellFormed, lineCommands, number_fits_of_addr, regOperandAddr_number_addr]
  rfl

theorem assembleLine_wr_number {n v : Int} (h0 : 0 ≤ n) (h31 : n ≤ 31) (hv : immFits v = true) :
    assembleLine (.wr (.number n) v) = some [BitVec.ofInt 32 (0x10000000 + n * 0x10000 + v % 0x10000)] := by
  have haddr := regOperandAddr_number_toNat h0 h31
  have hfits : (SourceLine.wr (.number n) v).wellFormed = true :=
    Bool.and_eq_true_iff.mpr ⟨(number_fits_iff n).mpr ⟨h0, h31⟩, hv⟩
  rw [assembleLine_of_wellFormed (l := .wr (.number n) v) nofun hfits]
  have hword : encode (.wr (regOperandAddr (.number n)) (immPattern v)) = _ :=
    assembleFields_immPattern (k := 0x10000000 + n * 0x10000) (by rw [haddr]; rfl) v
  simp only [lineCommands, List.map_cons, List.map_nil, hword]

theorem assembleLine_rd_number {n : Int} (h0 : 0 ≤ n) (h31 : n ≤ 31) :
    assembleLine (.rd (.number n)) = some [BitVec.ofInt 32 (0x20000000 + n * 0x10000)] := by
  have haddr := regOperandAddr_number_toNat h0 h31
  have hfits : (SourceLine.rd (.number n)).wellFormed = true := (number_fits_iff n).mpr ⟨h0, h31⟩
  rw [assembleLine_of_wellFormed (l := .rd (.number n)) nofun hfits]
  have hword : encode (.rd (regOperandAddr (.number n))) = _ :=
    assembleFields_zero_imm (k := 0x20000000 + n * 0x10000) (by rw [haddr]; rfl)
  simp only [lineCommands, List.map_cons, List.map_nil, hword]

/-- A line of one command with the immediate `v` alone is its opcode and the pattern of `v`. -/
theorem assembleLine_imm {l : SourceLine} {i : Instr} {op : BitVec 4} {k v : Int} (hl : ∀ w, l ≠ .rawWord w)
    (hfits : l.wellFormed = true) (hi : lineCommands l = [i]) (hencode : encode i = assembleFields op 0 0 (immPattern v))
    (hk : k = op.toNat * 2 ^ 28) : assembleLine l = some [BitVec.ofInt 32 (k + v % 0x10000)] := by
  have hword := assembleFields_immPattern (op := op) (a := 0) (k := k) (by simp [hk]) v
  rw [assembleLine_of_wellFormed hl hfits, hi, List.map_cons, List.map_nil, hencode, hword]

/-- Settles O6: the words line by line, the rejections by the checks of the operands, and every word of a command
line is the encoding of a command. -/
theorem assembledLinesDecode : Obligations.AssembledLinesDecode := by
  refine ⟨rfl, rfl, rfl, rfl, fun v hlo hhi => ?_, fun n h0 h31 => assembleLine_rd_number h0 h31, fun q hq => ?_,
    fun v hv => ?_, fun n hn => ?_, assembleLine_rawWord, fun l ws hl h w hw => decode_of_mem_assembleLine hl h hw⟩
  · have hfits : immFits v = true := (immFits_iff v).mpr ⟨hlo, hhi⟩
    exact ⟨assembleLine_imm nofun hfits rfl rfl rfl, assembleLine_imm nofun hfits rfl rfl rfl,
      assembleLine_imm nofun hfits rfl rfl rfl, assembleLine_imm nofun hfits rfl rfl rfl,
      fun n h0 h31 => assembleLine_wr_number h0 h31 hfits⟩
  · have haddr : q.2 = (regNameAddr q.1).toNat := by
      revert q
      decide
    rw [haddr]
    exact ⟨assembleLine_rd_name q.1, assembleLine_wr_name q.1⟩
  · have hfits : ¬ immFits v = true := by
      rw [immFits_iff]
      omega
    exact ⟨assembleLine_eq_none hfits, assembleLine_eq_none hfits, assembleLine_eq_none hfits,
      assembleLine_eq_none hfits, fun r => assembleLine_eq_none fun h => hfits (Bool.and_eq_true_iff.mp h).2⟩
  · have hfits : ¬ (RegOperand.number n).fits = true := by
      rw [number_fits_iff]
      omega
    exact ⟨assembleLine_eq_none hfits, fun v => assembleLine_eq_none fun h => hfits (Bool.and_eq_true_iff.mp h).1⟩

/-- Settles O5: each word is a fixed number, so assembling and decoding it compute. -/
theorem exampleWords : Obligations.ExampleWords := by
  unfold Obligations.ExampleWords
  decide

/-! ### The words of the pseudo-commands (30_encoding.md R80) -/

/-- The word of `WR` to the register at `a`. -/
theorem encode_wr_immPattern {a : RegAddr} {k : Int} (hk : k = 0x10000000 + a.toNat * 0x10000) (v : Int) :
    encode (.wr a (immPattern v)) = BitVec.ofInt 32 (k + v % 0x10000) :=
  assembleFields_immPattern hk v

/-- A pseudo-command with a 32-bit operand is `WR OPH` with the high half, then its command with the low half. -/
theorem assembleLine_long {l : SourceLine} {i : Instr} {op : BitVec 4} {k x : Int} (hl : ∀ w, l ≠ .rawWord w)
    (hfits : l.wellFormed = longFits x) (hi : lineCommands l = [.wr (regNameAddr .oph) (longHigh x), i])
    (hencode : encode i = assembleFields op 0 0 (longLow x)) (hk : k = op.toNat * 2 ^ 28) :
    assembleLine l = if -0x80000000 ≤ x ∧ x ≤ 0xFFFFFFFF then
      some [BitVec.ofInt 32 (0x100D0000 + x / 0x10000 % 0x10000), BitVec.ofInt 32 (k + x % 0x10000)]
    else none := by
  have hhigh := encode_wr_immPattern (a := regNameAddr .oph) (k := 0x100D0000) rfl (x / 0x10000)
  have hlow := assembleFields_immPattern (op := op) (a := 0) (k := k) (by simp [hk]) x
  rw [assembleLine_eq_ite l hl, hfits, hi, List.map_cons, List.map_cons, List.map_nil, longHigh_eq_immPattern, hhigh,
    hencode, longLow_eq_immPattern, hlow]
  exact ite_congr (propext (longFits_iff x)) (fun _ => rfl) (fun _ => rfl)

/-- `SETP` is `WR` and `COMMIT`, rejected where the `WR` is. -/
theorem assembleLine_setp (r : RegOperand) (v : Int) :
    assembleLine (.setp r v) = (assembleLine (.wr r v)).map (fun ws => ws ++ [0x30000000]) := by
  rw [assembleLine_eq_ite (.setp r v) nofun, assembleLine_eq_ite (.wr r v) nofun, apply_ite (Option.map _)]
  rfl

theorem setall_wellFormed_iff (g n m d r : Int) : (SourceLine.setall g n m d r).wellFormed = true ↔
    ∀ v ∈ [g, n, m, d, r], -0x8000 ≤ v ∧ v ≤ 0xFFFF := by
  simp [SourceLine.wellFormed, immFits_iff, and_assoc]

theorem encode_setall (g n m d r : Int) : (lineCommands (.setall g n m d r)).map encode =
    [BitVec.ofInt 32 (0x10000000 + g % 0x10000), BitVec.ofInt 32 (0x10010000 + n % 0x10000),
      BitVec.ofInt 32 (0x10020000 + m % 0x10000), BitVec.ofInt 32 (0x10030000 + d % 0x10000),
      BitVec.ofInt 32 (0x10040000 + r % 0x10000), 0x30000000] := by
  simp only [lineCommands, List.map_cons, List.map_nil, encode_wr_immPattern rfl]
  rfl

theorem assembleLine_render (n : Int) :
    assembleLine (.render n) = if 0 ≤ n then some (List.replicate n.toNat 0x40000000) else none := by
  rw [assembleLine_eq_ite (.render n) nofun, lineCommands, List.map_replicate]
  exact ite_congr (propext decide_eq_true_iff) (fun _ => rfl) (fun _ => rfl)

/-- Settles O60: each pseudo-command by its own lemma, the reads of `RD48` by evaluation. -/
theorem pseudoCommandWords : Obligations.PseudoCommandWords := by
  refine ⟨fun _ => assembleLine_long nofun rfl rfl rfl rfl, fun _ => assembleLine_long nofun rfl rfl rfl rfl, rfl, rfl,
    assembleLine_setp, fun g n m d r => ?_, assembleLine_render⟩
  rw [assembleLine_eq_ite (.setall g n m d r) nofun, encode_setall]
  exact ite_congr (propext (setall_wellFormed_iff g n m d r)) (fun _ => rfl) (fun _ => rfl)

/-! ### What illegal words and `SETALL` do to the state -/

/-- Settles O8: the two kinds of illegal words, the outputs of the second by its opcode. -/
theorem illegalWordIsRecorded : Obligations.IllegalWordIsRecorded := by
  intro s w
  constructor
  · intro hop
    rw [← opField_toNat] at hop
    exact acceptWord_illegal ((decode_eq_illegalOpcode_iff w).mpr hop) s
  · intro hop hrsv
    rw [← opField_toNat] at hop
    have hillegal : decode w = .illegal (.reservedField (opField w)) :=
      (decode_eq_reservedField_iff w _).mpr ⟨hop, mt (rsvField_eq_zero_iff w).mp hrsv, rfl⟩
    have hrd : opField w = 0x2 ↔ w.toNat / 2 ^ 28 = 2 := opField_eq_iff w 0x2
    have hstep : opField w = 0x4 ↔ w.toNat / 2 ^ 28 = 4 := opField_eq_iff w 0x4
    rw [acceptWord_illegal hillegal]
    simp only [State.illegalWord, hrd, hstep]
    rfl

/-- The assembler's word of a command runs the command. -/
theorem State.after_encode {i : Instr} {s t : State} (h : exec i s = .next t) : s.after (.command (encode i)) = t :=
  State.after_instr (decode_encode i) h

/-- The assembler's `WR` to a staging register writes it and emits nothing (44_host_commands.md R201). -/
theorem State.after_encode_wr_staging {a : RegAddr} {i : ParamIdx} (ha : regAt a = .stg i) (v : Half) (s : State) :
    s.after (.command (encode (.wr a v))) = (s.writeStaging i v).emit .none := by
  have hwrite : writeReg a v s = (s.writeStaging i v).emit .none := by
    unfold writeReg
    rw [ha]
  exact State.after_encode (congrArg Host.Outcome.next hwrite)

/-- The assembler's `COMMIT` publishes the staging parameters and emits nothing (44_host_commands.md R208). -/
theorem State.after_encode_commit (s : State) : s.after (.command (encode .commit)) = s.publish.emit .none :=
  State.after_encode rfl

/-- Settles O51: five staging writes and a `COMMIT`, one after the other. -/
theorem setallPublishesAllFive : Obligations.SetallPublishesAllFive := by
  intro s g n m d r hfits
  refine ⟨_, assembleLine_of_wellFormed nofun hfits, ?_⟩
  simp only [lineCommands, List.map_cons, List.map_nil, runInputs_cons, runInputs_nil]
  rw [State.after_encode_wr_staging (a := regNameAddr .gainDb) (i := .gainDb) rfl,
    State.after_encode_wr_staging (a := regNameAddr .note) (i := .note) rfl,
    State.after_encode_wr_staging (a := regNameAddr .modNote) (i := .modNote) rfl,
    State.after_encode_wr_staging (a := regNameAddr .depthDb) (i := .depthDb) rfl,
    State.after_encode_wr_staging (a := regNameAddr .drive) (i := .drive) rfl, State.after_encode_commit]
  simp [State.writeStaging, State.publish, State.emit, Params.set, immPattern]

end Sys2Proof.Machine

/-! The phase accumulator and the polynomial sine (40_phase_accumulator.md): PhaseWrap, the bits of the phase that the sine
reads, the ranges of the Horner chain and of the sine, its symmetry, and the sample of a carrier at phase 0. -/

namespace Sys2Proof.Machine

/-! ### The phase (40_phase_accumulator.md R101, R104) -/

theorem phase_toInt_bounds (p : Phase) : -2 ^ 31 ≤ p.toInt ∧ p.toInt < 2 ^ 31 :=
  ⟨BitVec.le_toInt p, BitVec.toInt_lt⟩

/-- Every phase pattern is a phase in [-1, 1) (10_state.md R21). -/
theorem phase_signedQ_bounds (p : Phase) : -1 ≤ signedQ 31 p ∧ signedQ 31 p < 1 := by
  obtain ⟨hlo, hhi⟩ := phase_toInt_bounds p
  have hlo' : (-2 ^ 31 : Rat) ≤ p.toInt := by exact_mod_cast hlo
  have hhi' : (p.toInt : Rat) < 2 ^ 31 := by exact_mod_cast hhi
  constructor
  · rw [signedQ, le_div_iff₀ (by positivity)]
    linarith
  · rw [signedQ, div_lt_iff₀ (by positivity)]
    linarith

/-- The signed value of the new phase drops the whole cycles of the sum. -/
theorem phaseAdd_toInt (p inc : Phase) : ∃ k : Int, (phaseAdd p inc).toInt = p.toInt + inc.toInt - k * 2 ^ 32 := by
  obtain ⟨k, hk⟩ : (2 ^ 32 : Int) ∣ p.toInt + inc.toInt - (phaseAdd p inc).toInt := by
    rw [phaseAdd, BitVec.toInt_add]
    exact Int.dvd_self_sub_bmod
  exact ⟨k, by linarith⟩

/-- Settles O24. -/
theorem phaseAddWrapsWholeCycles : Obligations.PhaseAddWrapsWholeCycles := fun p inc =>
  ⟨BitVec.toNat_add p inc, phaseAdd_toInt p inc, phase_signedQ_bounds (phaseAdd p inc)⟩

theorem sineArg_bounds (p : Phase) : -2 ^ 23 ≤ sineArg p ∧ sineArg p ≤ 2 ^ 23 - 1 := by
  obtain ⟨hlo, hhi⟩ := phase_toInt_bounds p
  exact ⟨(asr_le_iff _ _ _).mpr (by linarith), Int.le_sub_one_iff.mpr ((asr_lt_iff _ _ _).mpr (by linarith))⟩

/-- The argument of the sine is the same for phases that differ in bits 7:0 only. -/
theorem sineArg_eq_of_top_bits {p q : Phase} (h : p.toNat / 256 = q.toNat / 256) : sineArg p = sineArg q := by
  simp only [sineArg, asr, BitVec.toInt_eq_toNat_cond]
  omega

/-- Settles O25. -/
theorem sineReadsTheTopBits : Obligations.SineReadsTheTopBits :=
  ⟨fun p => ⟨rfl, sineArg_bounds p⟩, fun _ _ h => congrArg sinePoly (sineArg_eq_of_top_bits h)⟩

/-! ### The Horner chain (40_phase_accumulator.md R106) -/

/-- A step of the Horner chain, scaled by `2^k`, is its exact value less a remainder below `2^k`. -/
theorem add_asr_bounds (c v : Int) (k : Nat) :
    (c + asr v k) * 2 ^ k ≤ c * 2 ^ k + v ∧ c * 2 ^ k + v < (c + asr v k + 1) * 2 ^ k := by
  have hle : asr v k * 2 ^ k ≤ v := (asr_le_iff _ _ _).mp le_rfl
  have hlt : v < (asr v k + 1) * 2 ^ k := (asr_lt_iff _ _ _).mp (lt_add_one _)
  constructor <;> linarith

theorem hornerC5_floor (nn : Int) :
    hornerC5 nn * 2 ^ 23 ≤ sineC5 * 2 ^ 23 + nn * sineC7 ∧
    sineC5 * 2 ^ 23 + nn * sineC7 < (hornerC5 nn + 1) * 2 ^ 23 := add_asr_bounds ..

theorem hornerC3_floor (nn : Int) :
    hornerC3 nn * 2 ^ 23 ≤ sineC3 * 2 ^ 23 + nn * hornerC5 nn ∧
    sineC3 * 2 ^ 23 + nn * hornerC5 nn < (hornerC3 nn + 1) * 2 ^ 23 := add_asr_bounds ..

theorem hornerC1_floor (nn : Int) :
    hornerC1 nn * 2 ^ 23 ≤ sineC1 * 2 ^ 23 + nn * hornerC3 nn ∧
    sineC1 * 2 ^ 23 + nn * hornerC3 nn < (hornerC1 nn + 1) * 2 ^ 23 := add_asr_bounds ..

/-- The last value of the Horner chain without its roundings, scaled by `2^69`. -/
def exactC1 (nn : Int) : Int :=
  sineC1 * 2 ^ 69 + sineC3 * 2 ^ 46 * nn + sineC5 * 2 ^ 23 * nn ^ 2 + sineC7 * nn ^ 3

section
variable {nn : Int} (hnn : 0 ≤ nn)
include hnn

/-- Every rounding of the chain is downward, so the chain stays below the exact polynomial. -/
theorem hornerC1_le_exact : hornerC1 nn * 2 ^ 69 ≤ exactC1 nn := by
  obtain ⟨h5, -⟩ := hornerC5_floor nn
  obtain ⟨h3, -⟩ := hornerC3_floor nn
  obtain ⟨h1, -⟩ := hornerC1_floor nn
  have h5' := mul_le_mul_of_nonneg_left h5 (sq_nonneg nn)
  have h3' := mul_le_mul_of_nonneg_left h3 hnn
  unfold exactC1
  linarith

/-- The two roundings before the last lower the chain by no more than `nn * (nn + 2^23) * (2^23 - 1)`. -/
theorem exact_le_mul_hornerC3 :
    exactC1 nn - nn * (nn + 2 ^ 23) * (2 ^ 23 - 1) ≤ (sineC1 * 2 ^ 23 + nn * hornerC3 nn) * 2 ^ 46 := by
  obtain ⟨-, h5⟩ := hornerC5_floor nn
  obtain ⟨-, h3⟩ := hornerC3_floor nn
  have h5' := mul_le_mul_of_nonneg_left (Int.le_sub_one_iff.mpr h5) (sq_nonneg nn)
  have h3' := mul_le_mul_of_nonneg_left (Int.le_sub_one_iff.mpr h3) hnn
  unfold exactC1
  linarith

variable (hle : nn ≤ 2 ^ 23)
include hle

theorem hornerC5_bounds : 16734168 ≤ hornerC5 nn ∧ hornerC5 nn ≤ 20372901 := by
  obtain ⟨hfloor, hrem⟩ := hornerC5_floor nn
  simp only [sineC5, sineC7] at hfloor hrem
  constructor <;> linarith

/-- The product of the second step is largest at `nn = 2^23`, as `hornerC5` falls more slowly than `nn` grows. -/
theorem mul_hornerC5_bounds : 0 ≤ nn * hornerC5 nn ∧ nn * hornerC5 nn ≤ 16734168 * 2 ^ 23 := by
  obtain ⟨hlo, -⟩ := hornerC5_bounds hnn hle
  refine ⟨mul_nonneg hnn (by linarith), ?_⟩
  obtain ⟨hfloor, -⟩ := hornerC5_floor nn
  simp only [sineC5, sineC7] at hfloor
  have hmul := mul_le_mul_of_nonneg_left hfloor hnn
  have hgap : 0 ≤ (2 ^ 23 - nn) * (20372901 * 2 ^ 23 - 3638733 * (2 ^ 23 + nn)) :=
    mul_nonneg (by linarith) (by linarith)
  linarith

theorem hornerC3_bounds : -43066296 ≤ hornerC3 nn ∧ hornerC3 nn ≤ -26332128 := by
  obtain ⟨hlo, hhi⟩ := mul_hornerC5_bounds hnn hle
  obtain ⟨hfloor, hrem⟩ := hornerC3_floor nn
  simp only [sineC3] at hfloor hrem
  constructor <;> linarith

/-- The exact polynomial has a root at `nn = 2^23`; two units below it, it exceeds all that the roundings cost. -/
theorem roundings_le_exact (hfar : nn ≤ 2 ^ 23 - 2) : nn * (nn + 2 ^ 23) * (2 ^ 23 - 1) ≤ exactC1 nn := by
  have hroot : exactC1 nn = (2 ^ 23 - nn) * (26332128 * 2 ^ 46 - 16734168 * 2 ^ 23 * nn + 3638733 * nn ^ 2) := by
    unfold exactC1 sineC1 sineC3 sineC5 sineC7
    ring
  have hquot : 13236693 * 2 ^ 46 ≤ 26332128 * 2 ^ 46 - 16734168 * 2 ^ 23 * nn + 3638733 * nn ^ 2 := by
    nlinarith [mul_nonneg (sub_nonneg.mpr hle) (sub_nonneg.mpr hle), mul_nonneg hnn (sub_nonneg.mpr hle)]
  have hcost : nn * (nn + 2 ^ 23) * (2 ^ 23 - 1) ≤ 2 ^ 70 := by
    nlinarith [mul_nonneg hnn (sub_nonneg.mpr hle)]
  calc nn * (nn + 2 ^ 23) * (2 ^ 23 - 1) ≤ 2 ^ 70 := hcost
    _ ≤ 2 * (13236693 * 2 ^ 46) := by norm_num
    _ ≤ exactC1 nn := hroot ▸ mul_le_mul (by linarith) hquot (by norm_num) (by linarith)

/-- The last value of the chain is not negative: by the exact polynomial away from its root, by evaluation next to it. -/
theorem hornerC1_nonneg : 0 ≤ hornerC1 nn := by
  by_cases hfar : nn ≤ 2 ^ 23 - 2
  · have hexact := exact_le_mul_hornerC3 hnn
    have hcost := roundings_le_exact hnn hle hfar
    obtain ⟨-, hrem⟩ := hornerC1_floor nn
    linarith
  · obtain rfl | rfl : nn = 2 ^ 23 - 1 ∨ nn = 2 ^ 23 := by omega
    · decide
    · decide

theorem hornerC1_bounds : 0 ≤ hornerC1 nn ∧ hornerC1 nn ≤ 26332128 := by
  refine ⟨hornerC1_nonneg hnn hle, ?_⟩
  obtain ⟨-, hneg⟩ := hornerC3_bounds hnn hle
  obtain ⟨hfloor, -⟩ := hornerC1_floor nn
  have hprod : nn * hornerC3 nn ≤ 0 := mul_nonpos_of_nonneg_of_nonpos hnn (by linarith)
  simp only [sineC1] at hfloor
  linarith

end

/-! ### The square of the argument -/

theorem sineSquare_neg (n : Int) : sineSquare (-n) = sineSquare n := by
  rw [sineSquare, neg_mul_neg, sineSquare]

theorem sineSquare_bounds {n : Int} (hlo : -2 ^ 23 ≤ n) (hhi : n ≤ 2 ^ 23) :
    0 ≤ sineSquare n ∧ sineSquare n ≤ 2 ^ 23 := by
  have hsq : n * n ≤ 2 ^ 23 * 2 ^ 23 := abs_le_iff_mul_self_le.mp (abs_le.mpr ⟨hlo, hhi⟩)
  refine ⟨(asr_le_iff _ _ _).mpr (by nlinarith), Int.lt_add_one_iff.mp ((asr_lt_iff _ _ _).mpr ?_)⟩
  linarith

/-- The argument lies below the tangent of the square root at `2^22`, and below its floor since both are integers. -/
theorem le_sineSquare_add (n : Int) : n ≤ sineSquare n + 2 ^ 21 := by
  have h : n - 2 ^ 21 ≤ sineSquare n := (asr_le_iff _ _ _).mpr (by nlinarith [sq_nonneg (n - 2 ^ 22)])
  linarith

/-- Settles O26. -/
theorem hornerChainRanges : Obligations.HornerChainRanges := by
  intro p nn
  obtain ⟨hlo, hhi⟩ := sineArg_bounds p
  obtain ⟨hnn, hle⟩ : 0 ≤ nn ∧ nn ≤ 2 ^ 23 := sineSquare_bounds hlo (by linarith)
  obtain ⟨h5, h5'⟩ := hornerC5_bounds hnn hle
  obtain ⟨h3, h3'⟩ := hornerC3_bounds hnn hle
  exact ⟨hnn, hle, h5, h5', h3, h3', hornerC1_bounds hnn hle⟩

/-! ### The sine (40_phase_accumulator.md R106, 43_engine_step.md R183) -/

/-- A floor and the floor of the negated value are opposite, or one less. -/
theorem asr_add_asr_neg (v : Int) (k : Nat) : asr v k + asr (-v) k = 0 ∨ asr v k + asr (-v) k = -1 := by
  have hpos : (0 : Int) < 2 ^ k := by positivity
  obtain ⟨hle, hlt⟩ := add_asr_bounds 0 v k
  obtain ⟨hle', hlt'⟩ := add_asr_bounds 0 (-v) k
  have hupper : asr v k + asr (-v) k ≤ 0 := by nlinarith
  have hlower : -2 < asr v k + asr (-v) k := by nlinarith
  omega

theorem sinePoly_add_neg (n : Int) : sinePoly n + sinePoly (-n) = 0 ∨ sinePoly n + sinePoly (-n) = -1 := by
  rw [sinePoly, sinePoly, sineSquare_neg, neg_mul]
  exact asr_add_asr_neg _ _

/-- Settles O28. -/
theorem sineIsOddUpToOneLsb : Obligations.SineIsOddUpToOneLsb := fun n _ _ => sinePoly_add_neg n

/-- The exact polynomial times the tangent bound of the argument stays below the bound of the sine. The gap is a quartic,
expanded about the peak of the sine at `m = nn - 2^21 = 0`; the factor of `m^2` is at least `2^66`, which leaves a quadratic
of negative discriminant. -/
theorem tangent_mul_exact_lt {nn : Int} (hnn : 0 ≤ nn) (hle : nn ≤ 2 ^ 23) :
    (nn + 2 ^ 21) * exactC1 nn < 8391003 * 2 ^ 92 := by
  obtain ⟨m, rfl⟩ : ∃ m : Int, nn = m + 2 ^ 21 := ⟨nn - 2 ^ 21, by ring⟩
  have hexpand : 8391003 * 2 ^ 92 - (m + 2 ^ 21 + 2 ^ 21) * exactC1 (m + 2 ^ 21) =
      57 * 2 ^ 85 - 60873 * 2 ^ 63 * m + m ^ 2 * (395842917 * 2 ^ 42 - 63297939 * 2 ^ 21 * m + 3638733 * m ^ 2) := by
    unfold exactC1 sineC1 sineC3 sineC5 sineC7
    ring
  have hfactor : 2 ^ 66 ≤ 395842917 * 2 ^ 42 - 63297939 * 2 ^ 21 * m + 3638733 * m ^ 2 := by
    nlinarith [mul_nonneg (sub_nonneg.mpr hle) (sub_nonneg.mpr hle)]
  have hcurve := mul_le_mul_of_nonneg_left hfactor (sq_nonneg m)
  have hquadratic : 0 < 57 * 2 ^ 85 - 60873 * 2 ^ 63 * m + m ^ 2 * 2 ^ 66 := by
    nlinarith [sq_nonneg (16 * m - 60873)]
  linarith

/-- The product under the last rounding of the sine, for an argument that is not negative. -/
theorem mul_hornerC1_bounds {n : Int} (hn : 0 ≤ n) (hhi : n ≤ 2 ^ 23) :
    0 ≤ n * hornerC1 (sineSquare n) ∧ n * hornerC1 (sineSquare n) < 8391003 * 2 ^ 23 := by
  obtain ⟨hnn, hle⟩ := sineSquare_bounds (by linarith) hhi
  have hpos := hornerC1_nonneg hnn hle
  refine ⟨mul_nonneg hn hpos, lt_of_mul_lt_mul_right (a := 2 ^ 69) ?_ (by norm_num)⟩
  calc n * hornerC1 (sineSquare n) * 2 ^ 69
      ≤ (sineSquare n + 2 ^ 21) * hornerC1 (sineSquare n) * 2 ^ 69 := by
        gcongr
        exact le_sineSquare_add n
    _ = (sineSquare n + 2 ^ 21) * (hornerC1 (sineSquare n) * 2 ^ 69) := mul_assoc _ _ _
    _ ≤ (sineSquare n + 2 ^ 21) * exactC1 (sineSquare n) :=
        mul_le_mul_of_nonneg_left (hornerC1_le_exact hnn) (by linarith)
    _ < 8391003 * 2 ^ 92 := tangent_mul_exact_lt hnn hle
    _ = 8391003 * 2 ^ 23 * 2 ^ 69 := by norm_num

theorem sinePoly_bounds_of_nonneg {n : Int} (hn : 0 ≤ n) (hhi : n ≤ 2 ^ 23) :
    0 ≤ sinePoly n ∧ sinePoly n ≤ 8391002 := by
  obtain ⟨hpos, hlt⟩ := mul_hornerC1_bounds hn hhi
  exact ⟨(asr_le_iff _ _ _).mpr (by linarith), Int.lt_add_one_iff.mp ((asr_lt_iff _ _ _).mpr hlt)⟩

/-- The negative half mirrors the positive one, up to one LSB. -/
theorem sinePoly_bounds {n : Int} (hlo : -2 ^ 23 ≤ n) (hhi : n ≤ 2 ^ 23) :
    -8391003 ≤ sinePoly n ∧ sinePoly n ≤ 8391002 := by
  rcases le_total 0 n with hn | hn
  · obtain ⟨hmin, hmax⟩ := sinePoly_bounds_of_nonneg hn hhi
    exact ⟨by linarith, hmax⟩
  · obtain ⟨hmin, hmax⟩ := sinePoly_bounds_of_nonneg (n := -n) (by linarith) (by linarith)
    rcases sinePoly_add_neg n with hodd | hodd <;> constructor <;> linarith

theorem sine_bounds (p : Phase) : -8391003 ≤ sine p ∧ sine p ≤ 8391002 := by
  obtain ⟨hlo, hhi⟩ := sineArg_bounds p
  exact sinePoly_bounds hlo (by linarith)

/-- Settles O27: the range by `sine_bounds`, its two ends at a quarter of a cycle to each side of phase 0. -/
theorem sineFitsTwentyFiveBits : Obligations.SineFitsTwentyFiveBits := by
  refine ⟨fun p => ?_, by decide, by decide⟩
  obtain ⟨hmin, hmax⟩ := sine_bounds p
  exact ⟨hmin, hmax, by linarith, by linarith⟩

/-! ### The sample at carrier phase 0 (40_phase_accumulator.md R103, 43_engine_step.md R187) -/

@[simp] theorem sine_zero : sine 0 = 0 := by decide

/-- Rounding to an integer keeps 0, and so does scaling up. -/
@[simp] theorem rshr_zero (s : Int) : rshr 0 s = 0 := by
  rcases le_or_gt s 0 with hs | hs
  · rw [rshr_of_nonpos 0 s hs, zero_mul]
  · obtain ⟨k, rfl⟩ : ∃ k : Nat, s = ↑(k + 1) := ⟨s.toNat - 1, by omega⟩
    rw [rshr_of_pos 0 (k + 1) (Nat.succ_pos k), Nat.add_sub_cancel, zero_add]
    exact Int.ediv_eq_zero_of_lt (by positivity) (pow_lt_pow_right₀ one_lt_two (Nat.lt_succ_self k))

@[simp] theorem gainProduct_zero (gain : Half) : gainProduct gain 0 = 0 := by
  rw [gainProduct, zero_mul, rshr_zero]

/-- `STEP` writes the gained sine of the carrier phase before its update (43_engine_step.md R187, R188). -/
theorem exec_step_eq_writeSample (s : State) :
    ∃ phm phc, exec .step s = .next (s.writeSample phm phc (w48 (gainProduct s.act.gainDb (sine s.phc)))) :=
  ⟨_, _, rfl⟩

/-- Settles O39. -/
theorem stepFromPhaseZeroOutputsZero : Obligations.StepFromPhaseZeroOutputsZero := by
  intro s hphc
  obtain ⟨phm, phc, hstep⟩ := exec_step_eq_writeSample s
  rw [hphc, sine_zero, gainProduct_zero] at hstep
  exact ⟨_, hstep, rfl, rfl⟩

end Sys2Proof.Machine

/-! The soft clipper (41_soft_clipper.md): its two regions, its monotonicity, the bound that follows from it, the
distance from the exact cubic, and the symmetry. -/

namespace Sys2Proof.Machine

/-! ### The two regions (41_soft_clipper.md R130) -/

theorem clip_of_ge {x : Int} (h : 2 ^ 23 ≤ x) : clip x = 2 ^ 23 := if_pos h

theorem clip_of_le {x : Int} (h : x ≤ -2 ^ 23) : clip x = -2 ^ 23 := by
  rw [clip, if_neg (by linarith), if_pos h]

/-- The rounded cube `x3` of the clipper; its rounded square is that of the sine's argument. -/
def clipCube (x : Int) : Int := asr (sineSquare x * x) 23

/-- The cubic holds on the closed interval, as at its two ends it meets the saturated values. -/
theorem clip_eq_cubic {x : Int} (hlo : -2 ^ 23 ≤ x) (hhi : x ≤ 2 ^ 23) : clip x = asr (3 * x - clipCube x) 1 := by
  rcases hhi.eq_or_lt with rfl | hlt
  · decide
  rcases hlo.eq_or_lt with rfl | hgt
  · decide
  rw [clip, if_neg (not_le.mpr hlt), if_neg (not_le.mpr hgt)]
  rfl

/-- Settles O31: one LSB inside the ends the cubic already evaluates to the saturated value. -/
theorem clipHasNoStepAtOne : Obligations.ClipHasNoStepAtOne :=
  ⟨by decide, clip_of_ge le_rfl, by decide, clip_of_le le_rfl⟩

/-! ### Floors -/

theorem asr_bounds (v : Int) (k : Nat) : asr v k * 2 ^ k ≤ v ∧ v < (asr v k + 1) * 2 ^ k := by
  simpa using add_asr_bounds 0 v k

theorem sineSquare_floor (n : Int) : sineSquare n * 2 ^ 23 ≤ n * n ∧ n * n < (sineSquare n + 1) * 2 ^ 23 :=
  asr_bounds ..

theorem clipCube_floor (x : Int) :
    clipCube x * 2 ^ 23 ≤ sineSquare x * x ∧ sineSquare x * x < (clipCube x + 1) * 2 ^ 23 := asr_bounds ..

/-- The floors of the halves of two numbers that add up to 1 are opposite: one of the two is even, the other odd. -/
theorem asr_one_add_asr_one {u v : Int} (h : u + v = 1) : asr u 1 + asr v 1 = 0 := by
  unfold asr
  omega

/-! ### Monotonicity (41_soft_clipper.md R132) and the bound (R131) -/

section
variable {x : Int} (hlo : -2 ^ 23 ≤ x) (hhi : x + 1 ≤ 2 ^ 23)
include hlo hhi

/-- Two neighbouring squares differ by less than `2^24`, so their rounded quotients by at most 2. -/
theorem sineSquare_succ_sub_bounds :
    -2 ≤ sineSquare (x + 1) - sineSquare x ∧ sineSquare (x + 1) - sineSquare x ≤ 2 := by
  obtain ⟨hfloor, hrem⟩ := sineSquare_floor x
  obtain ⟨hfloor', hrem'⟩ := sineSquare_floor (x + 1)
  constructor <;> linarith

/-- One step raises the rounded cube by no more than it raises `3 * x`. -/
theorem clipCube_succ_le : clipCube (x + 1) ≤ clipCube x + 3 := by
  obtain ⟨hdown, hup⟩ := sineSquare_succ_sub_bounds hlo hhi
  obtain ⟨-, hsq⟩ := sineSquare_bounds (n := x + 1) (by linarith) hhi
  have hslope : (sineSquare (x + 1) - sineSquare x) * x ≤ 2 * 2 ^ 23 := by
    refine (le_abs_self _).trans ?_
    rw [abs_mul]
    exact mul_le_mul (abs_le.mpr ⟨hdown, hup⟩) (abs_le.mpr ⟨hlo, by linarith⟩) (abs_nonneg x) (by norm_num)
  obtain ⟨-, hrem⟩ := clipCube_floor x
  refine Int.lt_add_one_iff.mp ((asr_lt_iff _ _ _).mpr ?_)
  linarith

theorem clip_le_succ_of_cubic : clip x ≤ clip (x + 1) := by
  rw [clip_eq_cubic hlo (by linarith), clip_eq_cubic (by linarith) hhi]
  have hcube := clipCube_succ_le hlo hhi
  exact asr_mono 1 (by linarith)

end

/-- Settles O30: the clipper is constant on each side of the cubic. -/
theorem clipIsMonotone : Obligations.ClipIsMonotone := by
  intro x
  rcases lt_or_ge x (-2 ^ 23) with hbelow | hlo
  · rw [clip_of_le hbelow.le, clip_of_le (Int.add_one_le_of_lt hbelow)]
  rcases le_or_gt (2 ^ 23) x with habove | hhi
  · rw [clip_of_ge habove, clip_of_ge (by linarith)]
  · exact clip_le_succ_of_cubic hlo hhi

theorem clip_monotone : Monotone clip := monotone_int_of_le_succ clipIsMonotone

/-- Settles O29: a non-decreasing function lies between the values it saturates at. -/
theorem clipIsBounded : Obligations.ClipIsBounded := fun x =>
  ⟨clip_of_le (min_le_right x (-2 ^ 23)) ▸ clip_monotone (min_le_left x _),
    clip_of_ge (le_max_right x (2 ^ 23)) ▸ clip_monotone (le_max_left x _)⟩

/-! ### Accuracy and symmetry (41_soft_clipper.md R134) -/

/-- The distance from the exact cubic, scaled by `2^47`, is `r1 * x + 2^23 * r2 - 2^46 * r3` for the remainders of the
three roundings. Each term is at most `2^46` in size, and the second and the third have opposite signs. -/
theorem clip_sub_cubic_lt {x : Int} (hlo : -2 ^ 23 < x) (hhi : x < 2 ^ 23) :
    |clip x * 2 ^ 47 - (3 * x * 2 ^ 46 - x ^ 3)| < 2 ^ 47 := by
  rw [clip_eq_cubic hlo.le hhi.le]
  obtain ⟨hsq, hsq'⟩ := sineSquare_floor x
  obtain ⟨hcube, hcube'⟩ := clipCube_floor x
  obtain ⟨hhalf, hhalf'⟩ := asr_bounds (3 * x - clipCube x) 1
  have hterm : |(x * x - sineSquare x * 2 ^ 23) * x| < 2 ^ 23 * 2 ^ 23 := by
    rw [abs_mul]
    exact mul_lt_mul'' (abs_lt.mpr ⟨by linarith, by linarith⟩) (abs_lt.mpr ⟨hlo, hhi⟩) (abs_nonneg _) (abs_nonneg _)
  obtain ⟨hterm, hterm'⟩ := abs_lt.mp hterm
  rw [abs_lt]
  constructor <;> linarith

/-- The square is even, so the rounding of the cube alone breaks the symmetry. -/
theorem clipCube_add_neg (x : Int) : clipCube x + clipCube (-x) = 0 ∨ clipCube x + clipCube (-x) = -1 := by
  rw [clipCube, clipCube, sineSquare_neg, mul_neg]
  exact asr_add_asr_neg _ _

/-- Where the rounded cubes are opposite, the last rounding may lose one; where they add up to -1, it loses nothing. -/
theorem clip_add_neg {x : Int} (hlo : -2 ^ 23 ≤ x) (hhi : x ≤ 2 ^ 23) :
    clip x + clip (-x) = 0 ∨ clip x + clip (-x) = -1 := by
  rw [clip_eq_cubic hlo hhi, clip_eq_cubic (neg_le_neg hhi) (neg_le.mp hlo)]
  rcases clipCube_add_neg x with hopp | hlost
  · have hneg : 3 * -x - clipCube (-x) = -(3 * x - clipCube x) := by linarith
    rw [hneg]
    exact asr_add_asr_neg _ _
  · exact .inl (asr_one_add_asr_one (by linarith))

/-- Settles O32. -/
theorem clipIsTheCubicWithinOneLsb : Obligations.ClipIsTheCubicWithinOneLsb := by
  intro x hlo hhi
  refine ⟨?_, clip_add_neg (by linarith) (by linarith)⟩
  have hscaled : (clip x : Rat) - (3 * x * 2 ^ 46 - x ^ 3) / 2 ^ 47 =
      ((clip x * 2 ^ 47 - (3 * x * 2 ^ 46 - x ^ 3) : Int) : Rat) / 2 ^ 47 := by
    push_cast
    ring
  rw [hscaled, abs_div, abs_of_pos (by positivity : (0 : Rat) < 2 ^ 47), div_lt_one (by positivity)]
  exact_mod_cast clip_sub_cubic_lt (by linarith) (by linarith)

end Sys2Proof.Machine

/-! The parameter mapping (42_parameter_mapping.md): the roundings and the slices it is made of, the ranges of the note
mapping, its octave law and reference notes, and the ranges and the sign of the decibel mapping. -/

namespace Sys2Proof.Machine

/-! ### Roundings and slices (00_scope.md R10, R12) -/

theorem rshr_bounds (v : Int) (k : Nat) :
    rshr v ↑(k + 1) * (2 * 2 ^ k) ≤ v + 2 ^ k ∧ v + 2 ^ k < (rshr v ↑(k + 1) + 1) * (2 * 2 ^ k) := by
  rw [rshr_of_pos v (k + 1) k.succ_pos, Nat.add_sub_cancel, ← pow_succ']
  exact asr_bounds ..

theorem rshr_mono {v v' : Int} (s : Int) (h : v ≤ v') : rshr v s ≤ rshr v' s := by
  unfold rshr
  split
  · exact Int.mul_le_mul_of_nonneg_right h (by positivity)
  · exact asr_mono _ (by linarith)

/-- Rounding one bit later gives twice the value up to one LSB. Both roundings are off by at most half of their unit,
so with `2^k` half of the finer unit the two results differ by less than 2. -/
theorem rshr_eq_double (v : Int) (k : Nat) :
    rshr v ↑(k + 1) = rshr v ↑(k + 2) + rshr v ↑(k + 2) ∨
    rshr v ↑(k + 1) = rshr v ↑(k + 2) + rshr v ↑(k + 2) + 1 ∨
    rshr v ↑(k + 1) = rshr v ↑(k + 2) + rshr v ↑(k + 2) - 1 := by
  have hpos : (0 : Int) < 2 ^ k := by positivity
  obtain ⟨hfine, hfine'⟩ := rshr_bounds v k
  obtain ⟨hcoarse, hcoarse'⟩ := rshr_bounds v (k + 1)
  rw [pow_succ] at hcoarse hcoarse'
  have hupper : rshr v ↑(k + 1) < 2 * rshr v ↑(k + 2) + 2 := lt_of_mul_lt_mul_right (by linarith) hpos.le
  have hlower : 2 * rshr v ↑(k + 2) - 2 < rshr v ↑(k + 1) := lt_of_mul_lt_mul_right (by linarith) hpos.le
  omega

theorem slice_lt (v : Int) (hi lo : Nat) : slice v hi lo < 2 ^ (hi - lo + 1) := by
  have hlt : v / 2 ^ lo % 2 ^ (hi - lo + 1) < 2 ^ (hi - lo + 1) := Int.emod_lt_of_pos _ (by positivity)
  rw [slice, Int.toNat_lt' (by positivity)]
  exact_mod_cast hlt

theorem slice_byte (v : Int) : (slice v 7 0 : Int) = v % 256 := by
  rw [slice, pow_zero, Int.ediv_one]
  exact Int.toNat_of_nonneg (Int.emod_nonneg v (by norm_num))

theorem w32_add (u v : Int) : w32 (u + v) = w32 u + w32 v := BitVec.ofInt_add u v

theorem w32_toNat_of_bounds {v : Int} (hlo : 0 ≤ v) (hhi : v < 2 ^ 32) : ((w32 v).toNat : Int) = v := by
  rw [w32, BitVec.toNat_ofInt]
  omega

theorem half_toInt_bounds (c : Half) : -32768 ≤ c.toInt ∧ c.toInt ≤ 32767 :=
  ⟨BitVec.le_toInt c, Int.lt_add_one_iff.mp BitVec.toInt_lt⟩

/-- The rounded product of two table entries lies between the rounded products of the bounds of the tables. -/
theorem rshr_mul_bounds {a a' b b' : Nat} (ha : 65536 ≤ a ∧ a ≤ a') (hb : 65536 ≤ b ∧ b ≤ b') :
    65536 ≤ rshr (a * b : Nat) 16 ∧ rshr (a * b : Nat) 16 ≤ rshr (a' * b' : Nat) 16 := by
  obtain ⟨halo, hahi⟩ := ha
  obtain ⟨hblo, hbhi⟩ := hb
  exact ⟨rshr_mono (v := (65536 * 65536 : Nat)) 16 (Int.ofNat_le.mpr (Nat.mul_le_mul halo hblo)),
    rshr_mono 16 (Int.ofNat_le.mpr (Nat.mul_le_mul hahi hbhi))⟩

/-! ### The note mapping (42_parameter_mapping.md R156) -/

theorem noteSemitones_eq (c : Half) : noteSemitones c = noteOffset c / 256 := rfl

theorem noteOctave_eq (c : Half) : noteOctave c = noteSemitones c / 12 := rfl

theorem noteSemitone_eq (c : Half) : (noteSemitone c : Int) = noteSemitones c % 12 := by
  rw [noteSemitone, fmod, fdiv, ← Int.emod_def]
  exact Int.toNat_of_nonneg (Int.emod_nonneg _ (by norm_num))

theorem noteFraction_eq (c : Half) : (noteFraction c : Int) = noteOffset c % 256 := slice_byte _

theorem noteFraction_lt (c : Half) : noteFraction c < 256 := slice_lt ..

theorem noteSemitone_lt (c : Half) : noteSemitone c < 12 := by
  have := noteSemitone_eq c
  omega

theorem noteOffset_bounds (c : Half) : -50432 ≤ noteOffset c ∧ noteOffset c ≤ 15103 := by
  obtain ⟨hlo, hhi⟩ := half_toInt_bounds c
  unfold noteOffset
  constructor <;> linarith

theorem noteSemitones_bounds (c : Half) : -197 ≤ noteSemitones c ∧ noteSemitones c ≤ 58 := by
  have := noteOffset_bounds c
  rw [noteSemitones_eq]
  omega

theorem noteOctave_bounds (c : Half) : -17 ≤ noteOctave c ∧ noteOctave c ≤ 4 := by
  have := noteSemitones_bounds c
  rw [noteOctave_eq]
  omega

/-- Octave, semitone and fraction are the digits of the offset, so nothing is lost. -/
theorem noteOffset_decomposition (c : Half) :
    noteOffset c = (12 * noteOctave c + noteSemitone c) * 256 + noteFraction c := by
  rw [noteOctave_eq, noteSemitone_eq, Int.mul_ediv_add_emod, noteSemitones_eq, noteFraction_eq, Int.ediv_mul_add_emod]

theorem noteMantissa_bounds (c : Half) : 65536 ≤ noteMantissa c ∧ noteMantissa c ≤ 131041 :=
  rshr_mul_bounds (semiRom_bounds _ (noteSemitone_lt c)) (nfracRom_bounds _ (noteFraction_lt c))

/-- The shift of the increment's rounding is at least 28. -/
theorem exists_noteShift (c : Half) : ∃ k : Nat, 27 ≤ k ∧ 32 - noteOctave c = ↑(k + 1) := by
  obtain ⟨-, hhi⟩ := noteOctave_bounds c
  exact ⟨(31 - noteOctave c).toNat, by omega, by omega⟩

theorem noteIncrement_nonneg (fs : Nat) (c : Half) : 0 ≤ noteIncrement fs c := by
  obtain ⟨hmin, -⟩ := noteMantissa_bounds c
  have hka4 : 0 ≤ ka4 fs := Int.ediv_nonneg (by positivity) (by positivity)
  have hround := rshr_mono (32 - noteOctave c) (mul_nonneg hka4 (by linarith : 0 ≤ noteMantissa c))
  rwa [rshr_zero] at hround

/-- At the default rate even the largest mantissa in the highest octave stays below half a cycle. -/
theorem noteIncrement_48000_lt (c : Half) : noteIncrement 48000 c < 2 ^ 31 := by
  obtain ⟨-, hmax⟩ := noteMantissa_bounds c
  obtain ⟨k, hk, hshift⟩ := exists_noteShift c
  have hka4 : ka4 48000 = 2580187286514 := by decide
  have hunit : (2 : Int) ^ 27 ≤ 2 ^ k := pow_le_pow_right₀ one_le_two hk
  rw [noteIncrement, hshift, hka4, rshr_of_pos _ (k + 1) k.succ_pos, Nat.add_sub_cancel, asr_lt_iff, pow_succ _ k]
  linarith

/-- Settles O33. -/
theorem noteMappingRanges : Obligations.NoteMappingRanges := by
  intro c
  obtain ⟨hoff, hoff'⟩ := noteOffset_bounds c
  obtain ⟨hsemi, hsemi'⟩ := noteSemitones_bounds c
  obtain ⟨hoct, hoct'⟩ := noteOctave_bounds c
  obtain ⟨hmant, hmant'⟩ := noteMantissa_bounds c
  have hinc := noteIncrement_nonneg 48000 c
  have hinc' := noteIncrement_48000_lt c
  exact ⟨hoff, hoff', hsemi, hsemi', Nat.lt_succ_iff.mp (noteFraction_lt c), hoct, hoct',
    Nat.lt_succ_iff.mp (noteSemitone_lt c), noteOffset_decomposition c, hmant, hmant', hinc, hinc',
    w32_toNat_of_bounds hinc (by linarith)⟩

/-- Settles O35: a tuning note, and an octave to each side of it, evaluated. -/
theorem referenceNotes : Obligations.ReferenceNotes :=
  ⟨by decide, by decide, by decide⟩

/-! ### The octave law (42_parameter_mapping.md R167) -/

section
variable {c c' : Half} (h : c'.toInt = c.toInt + 12 * 256)
include h

theorem noteSemitones_octave_up : noteSemitones c' = noteSemitones c + 12 := by
  rw [noteSemitones_eq, noteSemitones_eq, noteOffset, noteOffset]
  omega

theorem noteFraction_octave_up : noteFraction c' = noteFraction c := by
  have hfr := noteFraction_eq c
  have hfr' := noteFraction_eq c'
  unfold noteOffset at hfr hfr'
  omega

theorem noteSemitone_octave_up : noteSemitone c' = noteSemitone c := by
  have hsemi := noteSemitones_octave_up h
  have hs := noteSemitone_eq c
  have hs' := noteSemitone_eq c'
  omega

theorem noteOctave_octave_up : noteOctave c' = noteOctave c + 1 := by
  rw [noteOctave_eq, noteOctave_eq, noteSemitones_octave_up h]
  omega

theorem noteMantissa_octave_up : noteMantissa c' = noteMantissa c := by
  rw [noteMantissa, noteSemitone_octave_up h, noteFraction_octave_up h, noteMantissa]

/-- The increment of the higher code is that of the lower one rounded one bit later. -/
theorem noteIncrement_octave_up (fs : Nat) :
    noteIncrement fs c' = rshr (ka4 fs * noteMantissa c) (31 - noteOctave c) := by
  have hshift : 32 - (noteOctave c + 1) = 31 - noteOctave c := by ring
  rw [noteIncrement, noteMantissa_octave_up h, noteOctave_octave_up h, hshift]

theorem noteIncrement_octave_up_eq_double (fs : Nat) :
    noteIncrement fs c' = noteIncrement fs c + noteIncrement fs c ∨
    noteIncrement fs c' = noteIncrement fs c + noteIncrement fs c + 1 ∨
    noteIncrement fs c' = noteIncrement fs c + noteIncrement fs c - 1 := by
  obtain ⟨k, -, hshift'⟩ := exists_noteShift c'
  have hshift : 32 - noteOctave c = ↑(k + 2) := by
    have hoct := noteOctave_octave_up h
    omega
  rw [noteIncrement, noteIncrement, hshift', hshift, noteMantissa_octave_up h]
  exact rshr_eq_double _ k

end

/-- Settles O34: the law of the increments, reduced modulo 2^32. -/
theorem octaveLaw : Obligations.OctaveLaw := by
  intro fs c c' h
  refine ⟨noteSemitone_octave_up h, noteFraction_octave_up h, noteMantissa_octave_up h, noteOctave_octave_up h,
    congrArg w32 (noteIncrement_octave_up h fs), ?_⟩
  unfold mtof
  rcases noteIncrement_octave_up_eq_double h fs with hinc | hinc | hinc <;> rw [hinc]
  · exact .inl (w32_add ..)
  · exact .inr (.inl (by rw [w32_add, w32_add]; rfl))
  · exact .inr (.inr (by rw [sub_eq_add_neg, w32_add, w32_add, sub_eq_add_neg]; rfl))

/-! ### The decibel mapping (42_parameter_mapping.md R160, R162) -/

theorem decibelOctaves_bounds (c : Half) : -5707038720 ≤ decibelOctaves c ∧ decibelOctaves c ≤ 5706864555 := by
  obtain ⟨hlo, hhi⟩ := half_toInt_bounds c
  unfold decibelOctaves l20
  constructor <;> linarith

theorem decibelOctave_bounds (c : Half) : -22 ≤ decibelOctave c ∧ decibelOctave c ≤ 21 := by
  obtain ⟨hlo, hhi⟩ := decibelOctaves_bounds c
  exact ⟨(asr_le_iff _ _ _).mpr (by linarith), Int.lt_add_one_iff.mp ((asr_lt_iff _ _ _).mpr (by linarith))⟩

theorem decibelHigh_lt (c : Half) : decibelHigh c < 256 := slice_lt ..

theorem decibelLow_lt (c : Half) : decibelLow c < 256 := slice_lt ..

theorem decibelMantissa_bounds (c : Half) : 65536 ≤ decibelMantissa c ∧ decibelMantissa c ≤ 131071 :=
  rshr_mul_bounds (ehiRom_bounds _ (decibelHigh_lt c)) (eloRom_bounds _ (decibelLow_lt c))

/-- Settles O36. -/
theorem decibelMappingRanges : Obligations.DecibelMappingRanges := by
  intro c
  obtain ⟨he, he'⟩ := decibelOctaves_bounds c
  obtain ⟨hoct, hoct'⟩ := decibelOctave_bounds c
  exact ⟨he, he', hoct, hoct', Nat.lt_succ_iff.mp (decibelHigh_lt c), Nat.lt_succ_iff.mp (decibelLow_lt c),
    decibelMantissa_bounds c⟩

/-- The octave is a floor, so it keeps the sign; the octaves per decibel are positive. -/
theorem decibelOctave_neg_iff (c : Half) : decibelOctave c < 0 ↔ c.toInt < 0 := by
  rw [decibelOctave, asr_lt_iff, decibelOctaves, l20]
  omega

/-- Settles O37. -/
theorem decibelSignIsOctaveSign : Obligations.DecibelSignIsOctaveSign :=
  ⟨decibelOctave_neg_iff, by decide, by decide, by decide⟩

end Sys2Proof.Machine

/-! The engine step (43_engine_step.md): what `STEP` does as one operation on the state, the part of the state it depends
on, its samples along a run, the pure tone of drive 0, and the ranges of the output and of the modulation. -/

namespace Sys2Proof.Machine

/-! ### `STEP` as an operation on the state (43_engine_step.md R180) -/

/-- The state after one sample of the engine: the meaning of `STEP` with its intermediate samples named. -/
def State.sampled (s : State) : State :=
  s.writeSample (phaseAdd s.phm (mtof s.fsHz s.act.modNote))
    (phaseAdd s.phc (carrierIncrement s.fsHz s.act (sine s.phm))) (w48 (gainProduct s.act.gainDb (sine s.phc)))

theorem exec_step (s : State) : exec .step s = .next s.sampled := rfl

theorem State.after_step {w : CmdWord} (hw : decode w = .command .step) (s : State) :
    s.after (.command w) = s.sampled :=
  State.after_instr hw (exec_step s)

/-- The assembler's word of `STEP` (30_encoding.md R74). -/
theorem decode_stepWord : decode 0x40000000 = .command .step := decode_encode .step

@[simp] theorem State.sampled_phm (s : State) :
    s.sampled.phm = phaseAdd s.phm (mtof s.fsHz s.act.modNote) := rfl

@[simp] theorem State.sampled_phc (s : State) :
    s.sampled.phc = phaseAdd s.phc (carrierIncrement s.fsHz s.act (sine s.phm)) := rfl

@[simp] theorem State.sampled_act (s : State) : s.sampled.act = s.act := rfl

@[simp] theorem State.sampled_fsHz (s : State) : s.sampled.fsHz = s.fsHz := rfl

@[simp] theorem State.sampled_out (s : State) : s.sampled.out = w48 (gainProduct s.act.gainDb (sine s.phc)) := rfl

@[simp] theorem State.sampled_pulse (s : State) : s.sampled.pulse = .smp s.sampled.out := rfl

theorem gainProduct_of_dbtoa {gain : Half} {m o : Int} (h : dbtoa gain = (m, o)) (cs : Int) :
    gainProduct gain cs = rshr (cs * m) (16 - o) := by
  rw [gainProduct, h]

theorem modulationDelta_of_dbtoa {depth : Half} {m o : Int} (h : dbtoa depth = (m, o)) (fs : Nat) (shaped : Int) :
    modulationDelta fs depth shaped = rshr (khz fs * m * shaped) (55 - o) := by
  rw [modulationDelta, h]

/-- A word whose upper eleven bits are an opcode and a reserved field of zero is the command of that opcode
(30_encoding.md R72, R78). -/
theorem decode_of_upper_bits {w : CmdWord} {op : BitVec 4} {i : Instr} (hw : w.toNat / 2 ^ 21 = op.toNat * 2 ^ 7)
    (hi : commandOf op (addrField w) (immField w) = some i) : decode w = .command i := by
  have hop : opField w = op := (opField_eq_iff w op).mpr (by omega)
  exact (decode_eq_command_iff w i).mpr ⟨hop ▸ hi, (rsvField_eq_zero_iff w).mpr (by omega)⟩

/-- A word with the opcode of `STEP` and a reserved field that is not zero is recorded, and pulses with the unchanged `OUT`
(30_encoding.md R76, 60_exceptions.md R303). -/
theorem acceptWord_erroneous_step {w : CmdWord} (hop : w.toNat / 2 ^ 28 = 0x4) (hrsv : w.toNat / 2 ^ 21 ≠ 0x4 * 2 ^ 7)
    (s : State) : acceptWord w s = .next { s with
      err := true, ecode := if s.err then s.ecode else 2, pulse := .smp s.out } := by
  obtain ⟨-, hfield⟩ := illegalWordIsRecorded s w
  rw [hfield (by omega) (by omega), hop]
  rfl

/-- Settles O18: the values the statement names are those of `State.sampled`, the two gains taken apart. -/
theorem stepResult : Obligations.StepResult := by
  refine ⟨?_, rfl, fun w hw => decode_of_upper_bits (op := 0x4) hw rfl,
    fun s w hop hrsv => acceptWord_erroneous_step hop hrsv s⟩
  rintro s ma oa md od _ _ _ _ _ _ _ _ _ hgain rfl hdepth rfl rfl rfl rfl rfl rfl rfl rfl
  rw [exec_step, State.sampled, gainProduct_of_dbtoa hgain, carrierIncrement, modulationDelta_of_dbtoa hdepth]
  rfl

/-! ### What a sample depends on (43_engine_step.md R190) -/

/-- Two states that no `STEP` tells apart: the phases, the active parameters and the sample rate agree. -/
structure State.SameEngine (s t : State) : Prop where
  phm : s.phm = t.phm
  phc : s.phc = t.phc
  act : s.act = t.act
  fsHz : s.fsHz = t.fsHz

section
variable {s t u : State}

theorem State.SameEngine.refl (s : State) : s.SameEngine s := ⟨rfl, rfl, rfl, rfl⟩

theorem State.SameEngine.trans (h : s.SameEngine t) (h' : t.SameEngine u) : s.SameEngine u :=
  ⟨h.phm.trans h'.phm, h.phc.trans h'.phc, h.act.trans h'.act, h.fsHz.trans h'.fsHz⟩

theorem State.SameEngine.sampled_out (h : s.SameEngine t) : s.sampled.out = t.sampled.out := by
  simp [h.phc, h.act]

/-- `STEP` keeps the agreement, as what it writes is made of what agrees. -/
theorem State.SameEngine.sampled (h : s.SameEngine t) : s.sampled.SameEngine t.sampled where
  phm := by simp [h.phm, h.act, h.fsHz]
  phc := by simp [h.phm, h.phc, h.act, h.fsHz]
  act := h.act
  fsHz := h.fsHz

end

/-- Settles O38. -/
theorem stepIsAFunctionOfPhasesAndParameters : Obligations.StepIsAFunctionOfPhasesAndParameters := by
  intro s s' hphm hphc hact hfs
  have h : s.SameEngine s' := ⟨hphm, hphc, hact, hfs⟩
  refine ⟨s.sampled, exec_step s, ?_⟩
  rw [State.sampled_pulse, h.sampled_out, h.sampled.phm, h.sampled.phc]
  exact exec_step s'

/-! ### The samples of a run (20_memory.md R58) -/

theorem samplesIn_pulsesOf_of_smp {h : HostInput} {s : State} {o : Wide} (hp : (s.after h).pulse = .smp o)
    (hs : List HostInput) : samplesIn (pulsesOf (h :: hs) s) = o :: samplesIn (pulsesOf hs (s.after h)) := by
  simp [pulsesOf, hp, samplesIn]

theorem samplesIn_pulsesOf_of_not_smp {h : HostInput} {s : State} (hp : ∀ o, (s.after h).pulse ≠ .smp o)
    (hs : List HostInput) : samplesIn (pulsesOf (h :: hs) s) = samplesIn (pulsesOf hs (s.after h)) := by
  cases hpulse : (s.after h).pulse with
  | smp o => exact absurd hpulse (hp o)
  | none => simp [pulsesOf, hpulse]
  | rsp d => simp [pulsesOf, hpulse, samplesIn]

/-- A `STEP` contributes the new `OUT`, and the run goes on from the state after it. -/
theorem samplesIn_pulsesOf_step {w : CmdWord} (hw : decode w = .command .step) (hs : List HostInput) (s : State) :
    samplesIn (pulsesOf (.command w :: hs) s) = s.sampled.out :: samplesIn (pulsesOf hs s.sampled) := by
  have hafter := State.after_step hw s
  rw [samplesIn_pulsesOf_of_smp (hafter ▸ s.sampled_pulse), hafter]

/-! ### Block equivalence (43_engine_step.md R194) -/

/-- The one illegal word that emits a sample has the opcode of `STEP` (60_exceptions.md R303). -/
theorem eq_stepError_of_illegalWord_smp {e : Illegal} {s : State} {o : Wide} (h : (s.illegalWord e).pulse = .smp o) :
    e = .reservedField 0x4 := by
  cases e with
  | illegalOpcode => cases h
  | reservedField op =>
    simp only [State.illegalWord, State.commandError_pulse] at h
    split_ifs at h with hrd hstep
    rw [hstep]

theorem WordEffect.step_or_illegal_of_smp {w : CmdWord} {s t : State} {o : Wide} (h : WordEffect w s t)
    (ho : t.pulse = .smp o) : decode w = .command .step ∨ ∃ e, decode w = .illegal e := by
  cases h with
  | step hw => exact .inl hw
  | illegal hw => exact .inr ⟨_, hw⟩
  | _ => cases ho

/-- Samples come from `STEP` and from an erroneous `STEP` alone. -/
theorem step_or_stepError_of_after_smp {w : CmdWord} {s : State} {o : Wide}
    (h : (s.after (.command w)).pulse = .smp o) :
    decode w = .command .step ∨ decode w = .illegal (.reservedField 0x4) := by
  rcases (after_effect w s).step_or_illegal_of_smp h with hstep | ⟨e, he⟩
  · exact .inl hstep
  · rw [State.after_illegal he] at h
    exact .inr (eq_stepError_of_illegalWord_smp h ▸ he)

/-- A word that is neither `STEP` nor `COMMIT` leaves what the samples depend on. -/
theorem after_sameEngine {w : CmdWord} (hstep : decode w ≠ .command .step) (hcommit : decode w ≠ .command .commit)
    (s : State) : (s.after (.command w)).SameEngine s := by
  have heffect := after_effect w s
  have hsample := mt heffect.step_of_sample_changed hstep
  have hact := mt heffect.commit_of_act_changed hcommit
  push Not at hsample hact
  obtain ⟨hphc, hphm, -⟩ := hsample
  obtain ⟨hfs, -⟩ := heffect.fsHz_input_kept
  exact ⟨hphm, hphc, hact, hfs⟩

/-- The simulation behind R194: a run from `s` emits what its `STEP`s alone emit from any state of the same engine. -/
theorem samplesIn_pulsesOf_eq_steps {hs : List HostInput}
    (hquiet : ∀ h ∈ hs, h.isReset = false ∧ h.isCommand .commit = false ∧ h.isStepError = false) {s t : State}
    (hst : s.SameEngine t) :
    samplesIn (pulsesOf hs s) =
      samplesIn (pulsesOf (List.replicate (hs.countP (fun h => h.isCommand .step)) (.command 0x40000000)) t) := by
  induction hs generalizing s t with
  | nil => rfl
  | cons h hs ih =>
    obtain ⟨⟨hreset, hcommit, herror⟩, htail⟩ := List.forall_mem_cons.mp hquiet
    cases h with
    | reset => cases hreset
    | command w =>
      by_cases hw : (HostInput.command w).isCommand .step = true
      · have hstep : decode w = .command .step := (isCommand_command_iff w .step).mp hw
        rw [List.countP_cons_of_pos hw, List.replicate_succ, samplesIn_pulsesOf_step hstep,
          samplesIn_pulsesOf_step decode_stepWord, hst.sampled_out, ih htail hst.sampled]
      · have hstep : decode w ≠ .command .step := mt (isCommand_command_iff w .step).mpr hw
        have hnotCommit : decode w ≠ .command .commit := beq_eq_false_iff_ne.mp hcommit
        have hnotError : decode w ≠ .illegal (.reservedField 0x4) := beq_eq_false_iff_ne.mp herror
        have hsilent : ∀ o, (s.after (.command w)).pulse ≠ .smp o := fun o ho =>
          (step_or_stepError_of_after_smp ho).elim hstep hnotError
        rw [List.countP_cons_of_neg hw, samplesIn_pulsesOf_of_not_smp hsilent,
          ih htail ((after_sameEngine hstep hnotCommit s).trans hst)]

/-- Settles O43. -/
theorem blockEquivalence : Obligations.BlockEquivalence := fun _ s hquiet =>
  samplesIn_pulsesOf_eq_steps hquiet (.refl s)

/-! ### The pure tone (43_engine_step.md R196) -/

theorem driveProduct_zero (ms : Int) : driveProduct 0 ms = 0 := by
  simp [driveProduct, asr]

theorem clip_zero : clip 0 = 0 := by decide

theorem modulationDelta_zero (fs : Nat) (depth : Half) : modulationDelta fs depth 0 = 0 := by
  rw [modulationDelta, mul_zero, rshr_zero]

/-- Without drive the modulator does not reach the carrier's increment. -/
theorem carrierIncrement_of_drive_zero {p : Params} (h : p.drive = 0) (fs : Nat) (ms : Int) :
    carrierIncrement fs p ms = mtof fs p.note := by
  rw [carrierIncrement, h, driveProduct_zero, clip_zero, modulationDelta_zero, add_zero, w32, BitVec.ofInt_natCast,
    BitVec.ofNat_toNat, BitVec.setWidth_eq]

/-- The phase `k + 1` increments on is that of `k` increments after one more. -/
theorem add_ofNat_succ_mul (p inc : Phase) (k : Nat) :
    p + BitVec.ofNat 32 ((k + 1) * inc.toNat) = phaseAdd p inc + BitVec.ofNat 32 (k * inc.toNat) := by
  apply BitVec.eq_of_toNat_eq
  simp only [phaseAdd, BitVec.toNat_add, BitVec.toNat_ofNat, Nat.add_mul, Nat.one_mul]
  omega

/-- From any carrier phase, the samples of `n` `STEP`s without drive are the gained sines of equally spaced phases. -/
theorem samplesIn_pulsesOf_steps_of_drive_zero (n : Nat) {s : State} (h : s.act.drive = 0) :
    samplesIn (pulsesOf (List.replicate n (.command 0x40000000)) s) =
      (List.range n).map fun k : Nat =>
        w48 (gainProduct s.act.gainDb (sine (s.phc + BitVec.ofNat 32 (k * (mtof s.fsHz s.act.note).toNat)))) := by
  induction n generalizing s with
  | zero => rfl
  | succ n ih =>
    have hphc : s.sampled.phc = phaseAdd s.phc (mtof s.fsHz s.act.note) := by
      rw [State.sampled_phc, carrierIncrement_of_drive_zero h]
    rw [List.replicate_succ, samplesIn_pulsesOf_step decode_stepWord, ih (s := s.sampled) h, hphc,
      List.range_succ_eq_map, List.map_cons, List.map_map]
    simp [Function.comp_def, add_ofNat_succ_mul]

/-- Settles O42: the tone from carrier phase 0. -/
theorem driveZeroIsAPureTone : Obligations.DriveZeroIsAPureTone := by
  intro s n hphc hdrive
  rw [samplesIn_pulsesOf_steps_of_drive_zero n hdrive, hphc]
  simp only [zero_add]
  rfl

/-! ### The range of the output (43_engine_step.md R188, R191) -/

/-- Rounding away bits that are all zero is exact. -/
theorem rshr_mul_two_pow (m : Int) (k : Nat) : rshr (m * 2 ^ k) k = m := by
  cases k with
  | zero => simp [rshr, shl]
  | succ k =>
    have hhalf : (2 : Int) ^ k < 2 ^ (k + 1) := pow_lt_pow_right₀ one_lt_two k.lt_succ_self
    rw [rshr_of_pos _ (k + 1) k.succ_pos, Nat.add_sub_cancel, asr, add_comm, Int.add_mul_ediv_right _ _ (by positivity),
      Int.ediv_eq_zero_of_lt (by positivity) hhalf, zero_add]

/-- A bound that is a whole number of units survives the rounding. -/
theorem abs_rshr_le {v m : Int} {k : Nat} (h : |v| ≤ m * 2 ^ k) : |rshr v k| ≤ m := by
  obtain ⟨hlo, hhi⟩ := abs_le.mp h
  rw [← neg_mul] at hlo
  exact abs_le.mpr ⟨rshr_mul_two_pow (-m) k ▸ rshr_mono k hlo, rshr_mul_two_pow m k ▸ rshr_mono k hhi⟩

/-- Scaling up by at most `2^n`, or rounding, grows a value by no more than the factor `2^n`. -/
theorem abs_rshr_le_mul_two_pow {v s : Int} {n : Nat} (hs : -(n : Int) ≤ s) : |rshr v s| ≤ |v| * 2 ^ n := by
  rcases le_or_gt s 0 with hneg | hpos
  · rw [rshr_of_nonpos v s hneg, abs_mul, abs_of_pos (by positivity : (0 : Int) < 2 ^ (-s).toNat)]
    gcongr
    · norm_num
    · omega
  · obtain ⟨k, rfl⟩ := Int.eq_ofNat_of_zero_le hpos.le
    refine abs_rshr_le ?_
    rw [mul_assoc, ← pow_add]
    exact le_mul_of_one_le_right (abs_nonneg v) (one_le_pow₀ one_le_two)

theorem w48_toInt_of_abs_lt {v : Int} (h : |v| < 2 ^ 47) : (w48 v).toInt = v := by
  obtain ⟨hlo, hhi⟩ := abs_lt.mp h
  exact BitVec.toInt_ofInt_eq_self (by norm_num) hlo.le hhi

/-- The widest sine, mantissa and octave together stay inside the signed 48-bit range. -/
theorem abs_gainProduct_sine_lt (gain : Half) (p : Phase) : |gainProduct gain (sine p)| < 2 ^ 47 := by
  obtain ⟨hmin, hmax⟩ := sine_bounds p
  obtain ⟨hmant, hmant'⟩ := decibelMantissa_bounds gain
  obtain ⟨-, hoct⟩ := decibelOctave_bounds gain
  have hsine : |sine p| ≤ 8391003 := abs_le.mpr ⟨hmin, by linarith⟩
  have hfactor : |decibelMantissa gain| ≤ 131071 := abs_le.mpr ⟨by linarith, hmant'⟩
  have hshift : -((5 : Nat) : Int) ≤ 16 - decibelOctave gain := by push_cast; linarith
  calc |gainProduct gain (sine p)|
      ≤ |sine p * decibelMantissa gain| * 2 ^ 5 := abs_rshr_le_mul_two_pow hshift
    _ = |sine p| * |decibelMantissa gain| * 2 ^ 5 := by rw [abs_mul]
    _ ≤ 8391003 * 131071 * 2 ^ 5 := by gcongr
    _ < 2 ^ 47 := by norm_num

/-- Settles O40. -/
theorem outputIsNeverWrapped : Obligations.OutputIsNeverWrapped := fun s =>
  ⟨s.sampled, exec_step s, w48_toInt_of_abs_lt (abs_gainProduct_sine_lt s.act.gainDb s.phc)⟩

/-! ### The range of the modulation (43_engine_step.md R186) -/

theorem ehiRom_le_of_le_66 : ∀ i < 67, ehiRom i ≤ 78359 := by decide

/-- In the highest octave the codes end at the coarse fraction 66. -/
theorem decibelHigh_le_of_top_octave {c : Half} (h : decibelOctave c = 21) : decibelHigh c ≤ 66 := by
  obtain ⟨-, hhi⟩ := decibelOctaves_bounds c
  simp only [decibelOctave, asr] at h
  simp only [decibelHigh, slice]
  omega

theorem decibelMantissa_le_of_top_octave {c : Half} (h : decibelOctave c = 21) : decibelMantissa c ≤ 78571 := by
  obtain ⟨hmin, -⟩ := ehiRom_bounds _ (decibelHigh_lt c)
  have hmax := ehiRom_le_of_le_66 _ (Nat.lt_succ_of_le (decibelHigh_le_of_top_octave h))
  obtain ⟨-, hle⟩ := rshr_mul_bounds ⟨hmin, hmax⟩ (eloRom_bounds _ (decibelLow_lt c))
  exact hle.trans (by decide)

/-- The largest increment per hertz, mantissa and shaped sample, at the shift of the octave: the highest octave has a
smaller mantissa, and every other one a larger shift. -/
theorem khz_mul_mantissa_le (c : Half) :
    5864062015 * decibelMantissa c * 2 ^ 23 ≤ 225000000000 * 2 ^ (55 - decibelOctave c).toNat := by
  obtain ⟨-, hoct⟩ := decibelOctave_bounds c
  rcases hoct.eq_or_lt with htop | hbelow
  · have hmant := decibelMantissa_le_of_top_octave htop
    have hshift : ((55 : Int) - 21).toNat = 34 := rfl
    rw [htop, hshift]
    linarith
  · obtain ⟨-, hmant⟩ := decibelMantissa_bounds c
    have hshift : (2 : Int) ^ 35 ≤ 2 ^ (55 - decibelOctave c).toNat := pow_le_pow_right₀ one_le_two (by omega)
    linarith

/-- Settles O41. -/
theorem modulationIsBounded : Obligations.ModulationIsBounded := by
  intro depth x
  obtain ⟨hlo, hhi⟩ := clipIsBounded x
  obtain ⟨hmant, -⟩ := decibelMantissa_bounds depth
  obtain ⟨-, hoct⟩ := decibelOctave_bounds depth
  have hkhz : khz 48000 = 5864062015 := by decide
  have hclip : |clip x| ≤ 2 ^ 23 := abs_le.mpr ⟨hlo, hhi⟩
  have hshift : 55 - decibelOctave depth = ((55 - decibelOctave depth).toNat : Int) := by omega
  rw [modulationDelta_of_dbtoa rfl, hkhz, hshift]
  refine abs_rshr_le ?_
  calc |5864062015 * decibelMantissa depth * clip x|
      = 5864062015 * decibelMantissa depth * |clip x| := by rw [abs_mul, abs_of_nonneg (by linarith)]
    _ ≤ 5864062015 * decibelMantissa depth * 2 ^ 23 := by gcongr
    _ ≤ 225000000000 * 2 ^ (55 - decibelOctave depth).toNat := khz_mul_mantissa_le depth

end Sys2Proof.Machine

/-! The host commands (44_host_commands.md): what `WR`, `RD`, `COMMIT`, `NOP`, `CLRERR` and the function-unit commands do to
the state, and the round trip of a written register. -/

namespace Sys2Proof.Machine

/-! ### Every step has a next state; `NOP` (44_host_commands.md R200, R215) -/

/-- Settles O12: the host's next input is nothing, or an input with a next state. -/
theorem everyStepIsSafe : Obligations.EveryStepIsSafe := by
  intro s
  cases hin : s.input with
  | nil => exact ⟨_, step_nil hin⟩
  | cons h rest =>
    have hstep : step s = acceptInput (some h) s.takeInput := by rw [step, hin, List.head?_cons]
    exact ⟨_, hstep.trans (acceptInput_eq_after h s.takeInput)⟩

/-- Settles O14. -/
theorem nopChangesNothing : Obligations.NopChangesNothing :=
  ⟨fun _ => rfl, fun _ hw => decode_of_upper_bits (op := 0x0) hw rfl⟩

/-! ### Writes (44_host_commands.md R201 to R203) -/

section
variable {a : RegAddr}

theorem writeReg_of_stg {i : ParamIdx} (ha : regAt a = .stg i) (v : Half) (s : State) :
    writeReg a v s = (s.writeStaging i v).emit .none := by
  rw [writeReg, ha]

theorem writeReg_of_oph (ha : regAt a = .oph) (v : Half) (s : State) :
    writeReg a v s = (s.writeOph v).emit .none := by
  rw [writeReg, ha]

theorem writeReg_of_unmapped (ha : regAt a = .unmapped) (v : Half) (s : State) :
    writeReg a v s = s.commandError .badAddress .none := by
  rw [writeReg, ha]

/-- The mapped addresses that are neither staging registers nor `OPH` (44_host_commands.md R203). -/
theorem writeReg_of_readOnly (ha : (0x08 ≤ a.toNat ∧ a.toNat ≤ 0x0C) ∨ (0x0E ≤ a.toNat ∧ a.toNat ≤ 0x15)) (v : Half)
    (s : State) : writeReg a v s = s.commandError .readOnly .none := by
  rcases writeReg_cases a v s with ⟨i, hi, -⟩ | ⟨hoph, -⟩ | ⟨hun, -⟩ | ⟨-, -, -, h⟩
  · have := (regAt_stg_iff a).mp ⟨i, hi⟩
    omega
  · have := (regAt_oph_iff a).mp hoph
    omega
  · have := (regAt_unmapped_iff a).mp hun
    omega
  · exact h

end

theorem encode_wr_toNat (a : RegAddr) (v : Half) :
    (encode (.wr a v)).toNat = 0x10000000 + a.toNat * 2 ^ 16 + v.toNat := by
  simp [encode, assembleFields_toNat]

theorem exec_wr_eq {a : RegAddr} {v : Half} {s t : State} (h : writeReg a v s = t) : exec (.wr a v) s = .next t :=
  congrArg Host.Outcome.next h

/-- Settles O15: each address by the kind of register that stands there. -/
theorem wrResult : Obligations.WrResult := by
  intro s v
  refine ⟨exec_wr_eq (writeReg_of_stg (i := .gainDb) rfl v s), exec_wr_eq (writeReg_of_stg (i := .note) rfl v s),
    exec_wr_eq (writeReg_of_stg (i := .modNote) rfl v s), exec_wr_eq (writeReg_of_stg (i := .depthDb) rfl v s),
    exec_wr_eq (writeReg_of_stg (i := .drive) rfl v s), exec_wr_eq (writeReg_of_oph rfl v s), fun a ha => ?_,
    fun a ha => exec_wr_eq (writeReg_of_readOnly ha v s), fun a => encode_wr_toNat a v⟩
  exact exec_wr_eq (writeReg_of_unmapped ((regAt_unmapped_iff a).mpr ha) v s)

/-! ### Reads (44_host_commands.md R204 to R206) -/

theorem flagValue_eq_toNat (b : Bool) : flagValue b = b.toNat := by
  cases b <;> rfl

theorem readReg_status (s : State) :
    readReg s 0x0E = some (BitVec.ofNat 16 (s.pend.toNat + 2 * s.err.toNat + 16 * s.ecode.toNat)) := by
  rw [← flagValue_eq_toNat, ← flagValue_eq_toNat]
  rfl

theorem encode_rd_toNat (a : RegAddr) : (encode (.rd a)).toNat = 0x20000000 + a.toNat * 2 ^ 16 := by
  simp [encode, assembleFields_toNat]

/-- `RD` ignores `imm16` (30_encoding.md R72). -/
theorem decode_rd_of_upper_bits {a : RegAddr} {w : CmdWord} (hw : w.toNat / 2 ^ 16 = 0x2000 + a.toNat) :
    decode w = .command (.rd a) := by
  have hlt := a.isLt
  have haddr : addrField w = a := BitVec.eq_of_toNat_eq (by rw [addrField_toNat]; omega)
  have hupper : w.toNat / 2 ^ 21 = (0x2 : BitVec 4).toNat * 2 ^ 7 := by
    change w.toNat / 2 ^ 21 = 2 * 2 ^ 7
    omega
  exact decode_of_upper_bits hupper (haddr ▸ rfl)

/-- Settles O16: each mapped address by the value `readReg` gives there. -/
theorem rdResult : Obligations.RdResult := by
  intro s
  refine ⟨exec_rd_of_readReg rfl, exec_rd_of_readReg rfl, exec_rd_of_readReg rfl, exec_rd_of_readReg rfl,
    exec_rd_of_readReg rfl, exec_rd_of_readReg rfl, exec_rd_of_readReg rfl, exec_rd_of_readReg rfl,
    exec_rd_of_readReg rfl, exec_rd_of_readReg rfl, exec_rd_of_readReg rfl, exec_rd_of_readReg (readReg_status s),
    exec_rd_of_readReg rfl, exec_rd_of_readReg rfl, exec_rd_of_readReg rfl, exec_rd_of_readReg rfl,
    exec_rd_of_readReg rfl, exec_rd_of_readReg rfl, exec_rd_of_readReg rfl, fun a ha => ?_, encode_rd_toNat,
    fun _ _ => decode_rd_of_upper_bits⟩
  have hnone : readReg s a = none := (readReg_eq_none_iff s a).mpr ((regAt_unmapped_iff a).mpr ha)
  exact exec_rd_of_readReg_none hnone

/-! ### The round trip of a written register (44_host_commands.md R207) -/

/-- No two addresses are the same register (10_state.md R32). -/
theorem eq_of_regAt_eq : ∀ a a' : RegAddr, regAt a ≠ .unmapped → regAt a = regAt a' → a = a' := by
  decide

theorem readReg_of_stg {a : RegAddr} {i : ParamIdx} (ha : regAt a = .stg i) (s : State) :
    readReg s a = some (s.stg.get i) := by
  rw [readReg, ha]

theorem readReg_of_oph {a : RegAddr} (ha : regAt a = .oph) (s : State) : readReg s a = some s.oph := by
  rw [readReg, ha]

section
variable {a : RegAddr} (ha : a.toNat ≤ 4 ∨ a.toNat = 0x0D)
include ha

/-- The addresses `WR` can write are the staging registers and `OPH` (44_host_commands.md R201). -/
theorem regAt_stg_or_oph : (∃ i, regAt a = .stg i) ∨ regAt a = .oph := by
  rwa [regAt_stg_iff, regAt_oph_iff]

theorem readReg_writeReg_same (v : Half) (s : State) : readReg (writeReg a v s) a = some v := by
  rcases regAt_stg_or_oph ha with ⟨i, hi⟩ | hoph
  · simp [writeReg_of_stg hi, readReg_of_stg hi]
  · simp [writeReg_of_oph hoph, readReg_of_oph hoph]

/-- What stands at a writable address is made of the staging parameters and `OPH` alone. -/
theorem readReg_congr {s t : State} (hstg : t.stg = s.stg) (hoph : t.oph = s.oph) : readReg t a = readReg s a := by
  rcases regAt_stg_or_oph ha with ⟨i, hi⟩ | h
  · rw [readReg_of_stg hi, readReg_of_stg hi, hstg]
  · rw [readReg_of_oph h, readReg_of_oph h, hoph]

theorem readReg_writeReg_other {a' : RegAddr} (hne : a' ≠ a) (v : Half) (s : State) :
    readReg (writeReg a' v s) a = readReg s a := by
  have hreg : regAt a' ≠ regAt a := by
    intro h
    refine hne (eq_of_regAt_eq a a' ?_ h.symm).symm
    rcases regAt_stg_or_oph ha with ⟨i, hi⟩ | hoph
    · simp [hi]
    · simp [hoph]
  rcases writeReg_cases a' v s with ⟨j, hj, h⟩ | ⟨hoph', h⟩ | ⟨-, h⟩ | ⟨-, -, -, h⟩ <;> rw [h]
  · rcases regAt_stg_or_oph ha with ⟨i, hi⟩ | hoph
    · have hij : j ≠ i := fun hij => hreg (by rw [hj, hi, hij])
      simp [readReg_of_stg hi, Params.get_set_other s.stg j i v hij]
    · simp [readReg_of_oph hoph]
  · rcases regAt_stg_or_oph ha with ⟨i, hi⟩ | hoph
    · simp [readReg_of_stg hi]
    · exact absurd (hoph'.trans hoph.symm) hreg
  · exact readReg_congr ha rfl rfl
  · exact readReg_congr ha rfl rfl

/-- Every input but reset and a `WR` to the same address keeps what is read there (44_host_commands.md R207). -/
theorem readReg_after_kept {h : HostInput} (hreset : h.isReset = false)
    (hwr : ∀ v, h.isCommand (.wr a v) = false) (s : State) : readReg (s.after h) a = readReg s a := by
  cases h with
  | reset => cases hreset
  | command w =>
    by_cases hw : ∃ a' v', decode w = .command (.wr a' v')
    · obtain ⟨a', v', hw⟩ := hw
      have hne : a' ≠ a := by
        rintro rfl
        cases (hwr v').symm.trans ((isCommand_command_iff w _).mpr hw)
      rw [State.after_instr hw rfl]
      exact readReg_writeReg_other ha hne v' s
    · have heffect := after_effect w s
      refine readReg_congr ha (not_not.mp fun hstg => hw ?_) (not_not.mp fun hoph => hw ?_)
      · obtain ⟨a', v', -, hd⟩ := heffect.wr_of_stg_changed hstg
        exact ⟨a', v', hd⟩
      · obtain ⟨v', hd⟩ := heffect.wr_of_oph_changed hoph
        exact ⟨_, v', hd⟩

end

/-- Settles O47: the write makes the value readable, and every input between keeps what is read. -/
theorem writeThenReadRoundTrip : Obligations.WriteThenReadRoundTrip := by
  intro s a v hs ha hbetween
  have hwrite : readReg (s.after (.command (encode (.wr a v)))) a = some v := by
    rw [State.after_encode rfl]
    exact readReg_writeReg_same ha v s
  have hread : readReg (runInputs (.command (encode (.wr a v)) :: hs) s) a = some v := by
    rw [runInputs_cons]
    refine runInputs_keeps (P := fun t => readReg t a = some v) (fun h hh t ht => ?_) hwrite
    obtain ⟨hreset, hwr⟩ := hbetween h hh
    exact (readReg_after_kept ha hreset hwr t).trans ht
  exact ⟨_, exec_rd_of_readReg hread, rfl⟩

/-! ### `COMMIT` and `CLRERR` (44_host_commands.md R208, R216) -/

theorem exec_commit (s : State) : exec .commit s = .next (s.publish.emit .none) := rfl

theorem exec_clrerr (s : State) : exec .clrerr s = .next (s.clearError.emit .none) := rfl

theorem State.publish_eq_self {s : State} (hact : s.act = s.stg) (hpend : s.pend = false) : s.publish = s := by
  cases s
  cases hact
  cases hpend
  rfl

theorem State.clearError_eq_self {s : State} (herr : s.err = false) (hcode : s.ecode = 0) : s.clearError = s := by
  cases s
  cases herr
  cases hcode
  rfl

/-- Settles O17. -/
theorem commitResult : Obligations.CommitResult := by
  refine ⟨exec_commit, fun s hcoherent hpend => ?_, rfl, fun _ hw => decode_of_upper_bits (op := 0x3) hw rfl⟩
  rw [exec_commit, State.publish_eq_self (hcoherent hpend) hpend]
  rfl

/-- Settles O23: an erroneous `CLRERR` is an illegal word that is neither a `RD` nor a `STEP`, so it emits nothing. -/
theorem clrerrResult : Obligations.ClrerrResult := by
  refine ⟨exec_clrerr, fun s hlegal herr => ?_, rfl, fun _ hw => decode_of_upper_bits (op := 0x9) hw rfl,
    fun s w hop hrsv => ?_⟩
  · obtain ⟨hcode, -⟩ := hlegal
    rw [exec_clrerr, State.clearError_eq_self herr (hcode herr)]
    rfl
  · obtain ⟨-, hfield⟩ := illegalWordIsRecorded s w
    rw [hfield (by omega) (by omega), hop]
    rfl

/-! ### The function units (44_host_commands.md R212 to R217) -/

/-- Settles O19: the sine fits the 48 bits of `RES`. -/
theorem sineResult : Obligations.SineResult := by
  refine ⟨fun s v => ?_, fun _ hw => decode_of_upper_bits (op := 0x5) hw rfl⟩
  obtain ⟨hlo, hhi⟩ := sine_bounds (s.oph ++ v)
  refine ⟨w48 (sine (s.oph ++ v)), rfl, ?_⟩
  rw [w48_toInt_of_abs_lt (abs_lt.mpr ⟨by linarith, by linarith⟩)]
  exact ⟨rfl, hlo, hhi⟩

/-- Settles O20: the clipped value fits the 48 bits of `RES`. -/
theorem clipResult : Obligations.ClipResult := by
  refine ⟨fun s v => ?_, fun _ hw => decode_of_upper_bits (op := 0x6) hw rfl⟩
  obtain ⟨hlo, hhi⟩ := clipIsBounded (s.oph ++ v : BitVec 32).toInt
  refine ⟨w48 (clip (s.oph ++ v : BitVec 32).toInt), rfl, ?_⟩
  rw [w48_toInt_of_abs_lt (abs_lt.mpr ⟨by linarith, by linarith⟩)]
  exact ⟨rfl, hlo, hhi⟩

/-- A bit field of a result as a quotient and a remainder. -/
theorem wide_field_toNat (r : Wide) (k n : Nat) : (r.extractLsb' k n).toNat = r.toNat / 2 ^ k % 2 ^ n := by
  rw [BitVec.extractLsb'_toNat, Nat.shiftRight_eq_div_pow]

theorem incrementResult_toNat (inc : Phase) : (incrementResult inc).toNat = inc.toNat :=
  BitVec.toNat_setWidth_of_le (by decide)

/-- Settles O21: the two parts of the zero-extended increment. -/
theorem mtofResult : Obligations.MtofResult := by
  refine ⟨fun s v => ⟨incrementResult (mtof s.fsHz v), rfl, BitVec.eq_of_toNat_eq ?_, BitVec.eq_of_toNat_eq ?_⟩,
    fun _ hw => decode_of_upper_bits (op := 0x7) hw rfl⟩
  · rw [wide_field_toNat, incrementResult_toNat]
    omega
  · rw [wide_field_toNat, incrementResult_toNat]
    change _ = 0
    omega

/-- The mantissa and the octave's pattern do not overlap, so their union is their sum. -/
theorem factorResult_toNat {m : Int} (hlo : 0 ≤ m) (hhi : m < 2 ^ 24) (o : Int) :
    (factorResult m o).toNat = (BitVec.ofInt 8 o).toNat * 2 ^ 24 + m.toNat := by
  have hoct := (BitVec.ofInt 8 o).isLt
  have hmant : (BitVec.ofInt 48 m).toNat = m.toNat := by
    rw [BitVec.toNat_ofInt]
    omega
  have hshift : ((BitVec.ofInt 8 o).setWidth 48 <<< 24).toNat = (BitVec.ofInt 8 o).toNat <<< 24 := by
    rw [BitVec.toNat_shiftLeft, BitVec.toNat_setWidth, Nat.shiftLeft_eq, Nat.shiftLeft_eq]
    omega
  rw [factorResult, BitVec.toNat_or, hmant, hshift, Nat.or_comm, ← Nat.shiftLeft_add_eq_or_of_lt (by omega),
    Nat.shiftLeft_eq]

section
variable {m o : Int} (hlo : 0 ≤ m) (hhi : m < 2 ^ 17)
include hlo hhi

theorem factorResult_mantissa : (((factorResult m o).extractLsb' 0 17).toNat : Int) = m := by
  rw [wide_field_toNat, factorResult_toNat hlo (by omega)]
  omega

theorem factorResult_octave : (factorResult m o).extractLsb' 24 8 = BitVec.ofInt 8 o := by
  have hpattern := (BitVec.ofInt 8 o).isLt
  apply BitVec.eq_of_toNat_eq
  rw [wide_field_toNat, factorResult_toNat hlo (by omega)]
  omega

/-- The bits between the mantissa and the octave, and those above the octave. -/
theorem factorResult_zeros : (factorResult m o).extractLsb' 17 7 = 0 ∧ (factorResult m o).extractLsb' 32 16 = 0 := by
  have hpattern := (BitVec.ofInt 8 o).isLt
  constructor <;> apply BitVec.eq_of_toNat_eq <;> rw [wide_field_toNat, factorResult_toNat hlo (by omega)]
  · change _ = 0
    omega
  · change _ = 0
    omega

end

theorem State.writeRes_emit (r : Wide) (o : Output) (s : State) :
    (s.writeRes r).emit o = { s with res := r, pulse := o } := rfl

theorem exec_dbtoa (v : Half) (s : State) :
    exec (.dbtoa v) s = .next { s with res := factorResult (decibelMantissa v) (decibelOctave v), pulse := .none } :=
  congrArg Host.Outcome.next (State.writeRes_emit (factorResult (dbtoa v).1 (dbtoa v).2) .none s)

theorem dbtoa_eq (v : Half) : dbtoa v = (decibelMantissa v, decibelOctave v) := rfl

/-- Settles O22: the fields of the result, the octave read back from its eight bits. -/
theorem dbtoaResult : Obligations.DbtoaResult := by
  refine ⟨fun s v => ?_, fun _ hw => decode_of_upper_bits (op := 0x8) hw rfl⟩
  obtain ⟨hmlo, hmhi⟩ := decibelMantissa_bounds v
  obtain ⟨holo, hohi⟩ := decibelOctave_bounds v
  have hnonneg : 0 ≤ decibelMantissa v := by omega
  have hlt : decibelMantissa v < 2 ^ 17 := by omega
  obtain ⟨hbelow, habove⟩ := factorResult_zeros (o := decibelOctave v) hnonneg hlt
  have hoctave : (BitVec.ofInt 8 (decibelOctave v)).toInt = decibelOctave v :=
    BitVec.toInt_ofInt_eq_self (by norm_num) (by omega) (by omega)
  rw [dbtoa_eq]
  exact ⟨_, exec_dbtoa v s, factorResult_mantissa hnonneg hlt, hbelow,
    (congrArg BitVec.toInt (factorResult_octave hnonneg hlt)).trans hoctave, habove, hmlo, hmhi, holo, hohi⟩

end Sys2Proof.Machine

/-! Command errors and idleness (60_exceptions.md): an idle step, the error record once `ERR` is set, and the outputs that the
words of a run owe the host. -/

namespace Sys2Proof.Machine

/-! ### Idleness (60_exceptions.md R334) -/

theorem takeInput_nil {s : State} (h : s.input = []) : s.takeInput = s := by
  cases s
  cases h
  rfl

/-- Settles O9. -/
theorem stepIdlesWithoutInput : Obligations.StepIdlesWithoutInput := by
  intro s hin
  rw [step_nil hin, takeInput_nil hin]
  rfl

/-! ### The first error is kept (60_exceptions.md R302) -/

/-- A later error finds `ERR` set and keeps the code there is. -/
theorem State.commandError_keeps_first {s : State} (herr : s.err = true) (c : CmdError) (o : Output) :
    (s.commandError c o).err = true ∧ (s.commandError c o).ecode = s.ecode :=
  ⟨s.commandError_err c o, (s.commandError_ecode c o).trans (if_pos herr)⟩

/-- Of all that a word can do, only `CLRERR` takes back a recorded error (60_exceptions.md R312). -/
theorem WordEffect.keeps_first_error {w : CmdWord} {s t : State} (h : WordEffect w s t) (herr : s.err = true)
    (hclr : decode w ≠ .command .clrerr) : t.err = true ∧ t.ecode = s.ecode := by
  cases h with
  | clrerr hw => exact absurd hw hclr
  | wrError | rdError | illegal => exact State.commandError_keeps_first herr _ _
  | _ => exact ⟨herr, rfl⟩

/-- Settles O45: the host's next input is nothing, or a word that is no `CLRERR`. -/
theorem firstErrorIsKept : Obligations.FirstErrorIsKept := by
  intro s t hstep herr hinput
  cases hin : s.input with
  | nil => cases (step_nil hin).symm.trans hstep; exact ⟨herr, rfl⟩
  | cons h rest =>
    obtain ⟨hreset, hclr⟩ := hinput h (by rw [hin, List.head?_cons])
    cases h with
    | reset => cases hreset
    | command w =>
      have heffect : WordEffect w s.takeInput t := acceptWord_effect ((step_command hin).symm.trans hstep)
      exact heffect.keeps_first_error herr (beq_eq_false_iff_ne.mp hclr)

/-! ### The outputs of a run (60_exceptions.md R303) -/

/-- The outputs that a word of the opcode `op` may have: a response for `RD`, a sample for `STEP`, none for any other
(44_host_commands.md R200). -/
inductive OutputOf (op : BitVec 4) : Output → Prop where
  | rsp (hop : op = 0x2) (d : Half) : OutputOf op (.rsp d)
  | smp (hop : op = 0x4) (o : Wide) : OutputOf op (.smp o)
  | none (hrd : op ≠ 0x2) (hstep : op ≠ 0x4) : OutputOf op .none

theorem writeReg_pulse (a : RegAddr) (v : Half) (s : State) : (writeReg a v s).pulse = .none := by
  rcases writeReg_cases a v s with ⟨i, -, h⟩ | ⟨-, h⟩ | ⟨-, h⟩ | ⟨-, -, -, h⟩ <;> rw [h] <;> rfl

/-- A command emits what its opcode asks for; a `RD` of an unmapped address answers too. -/
theorem exec_output {i : Instr} {s t : State} (h : exec i s = .next t) : OutputOf i.opcode t.pulse := by
  cases i with
  | rd a => rcases execRd_cases a s with ⟨d, -, hd⟩ | ⟨-, hd⟩ <;> cases hd.symm.trans h <;> exact .rsp rfl _
  | step => cases h; exact .smp rfl _
  | wr a v => cases h; rw [writeReg_pulse]; exact .none nofun nofun
  | _ => cases h; exact .none nofun nofun

/-- A word with a reserved opcode emits nothing (30_encoding.md R75). -/
theorem illegalOpcode_output {op : BitVec 4} (hop : 10 ≤ op.toNat) (s : State) :
    OutputOf op (s.illegalWord .illegalOpcode).pulse := by
  refine .none ?_ ?_ <;> rintro rfl <;> exact absurd hop (by decide)

/-- A word with a reserved field that is not zero emits what its opcode asks for (30_encoding.md R76). -/
theorem reservedField_output (op : BitVec 4) (s : State) : OutputOf op (s.illegalWord (.reservedField op)).pulse := by
  rw [State.illegalWord, State.commandError_pulse]
  split_ifs with hrd hstep
  · exact .rsp hrd 0
  · exact .smp hstep s.out
  · exact .none hrd hstep

/-- Every word, legal or not, emits what its opcode asks for. -/
theorem after_output (w : CmdWord) (s : State) : OutputOf (opField w) (s.after (.command w)).pulse := by
  cases hw : decode w with
  | command i =>
    obtain ⟨hcommand, -⟩ := (decode_eq_command_iff w i).mp hw
    obtain ⟨t, ht⟩ := exec_total i s
    rw [State.after_instr hw ht, ← opcode_of_commandOf hcommand]
    exact exec_output ht
  | illegal e =>
    rw [State.after_illegal hw]
    cases e with
    | illegalOpcode => exact illegalOpcode_output ((decode_eq_illegalOpcode_iff w).mp hw) s
    | reservedField op =>
      obtain ⟨-, -, rfl⟩ := (decode_eq_reservedField_iff w op).mp hw
      exact reservedField_output (opField w) s

/-- Settles O52, by induction on the inputs: each word adds to the counts what its opcode asks for, and a reset nothing. -/
theorem oneResponsePerReadOneSamplePerStep : Obligations.OneResponsePerReadOneSamplePerStep := by
  intro hs
  induction hs with
  | nil => exact fun _ => ⟨rfl, rfl⟩
  | cons h hs ih =>
    intro s
    obtain ⟨hresponses, hsamples⟩ := ih (s.after h)
    rw [List.countP_cons, List.countP_cons, ← hresponses, ← hsamples]
    cases h with
    | reset => simp [pulsesOf, HostInput.hasOpcode]
    | command w =>
      have hout := after_output w s
      generalize hpulse : (s.after (.command w)).pulse = o at hout
      cases hout with
      | rsp hop d => simp [pulsesOf, hpulse, responsesIn, samplesIn, HostInput.hasOpcode, hop]
      | smp hop o => simp [pulsesOf, hpulse, responsesIn, samplesIn, HostInput.hasOpcode, hop]
      | none hrd hstep => simpa [pulsesOf, hpulse, HostInput.hasOpcode] using ⟨hrd, hstep⟩

end Sys2Proof.Machine

/-! Reset and the ports (70_reset_and_hazards.md): reset as an input and at a clock edge, what is out in a cycle, the clocked
block as a refinement of the command level, and how soon an accepted command completes. -/

namespace Sys2Proof.Machine

/-! ### The pulse is the last input's alone (70_reset_and_hazards.md R414)

Each lemma replaces the pulse before an operation, and finds the same pulse after it. -/

theorem readReg_emit (o : Output) (s : State) (a : RegAddr) : readReg (s.emit o) a = readReg s a := rfl

theorem writeReg_emit (o : Output) (a : RegAddr) (v : Half) (s : State) :
    writeReg a v (s.emit o) = writeReg a v s := by
  unfold writeReg
  cases regAt a <;> rfl

theorem exec_emit (o : Output) (i : Instr) (s : State) : exec i (s.emit o) = exec i s := by
  cases i with
  | wr a v => exact congrArg Host.Outcome.next (writeReg_emit o a v s)
  | rd a =>
    have hread := readReg_emit o s a
    cases h : readReg s a with
    | none => rw [exec_rd_of_readReg_none h, exec_rd_of_readReg_none (hread.trans h)]; rfl
    | some d => rw [exec_rd_of_readReg h, exec_rd_of_readReg (hread.trans h)]; rfl
  | _ => rfl

/-- No input reads the pulse of the one before, and each replaces it. -/
theorem after_emit (o : Output) (h : HostInput) (s : State) : (s.emit o).after h = s.after h := by
  cases h with
  | reset => rfl
  | command w =>
    cases hw : decode w with
    | illegal e =>
      rw [State.after_illegal hw, State.after_illegal hw]
      cases e <;> rfl
    | command i =>
      obtain ⟨t, ht⟩ := exec_total i s
      rw [State.after_instr hw ht, State.after_instr hw ((exec_emit o i s).trans ht)]

/-- A run differs by the pulse before it in its own last pulse alone, and in that only if the run is empty. -/
theorem runInputs_emit (o x : Output) (hs : List HostInput) (s : State) :
    (runInputs hs (s.emit o)).emit x = (runInputs hs s).emit x := by
  cases hs with
  | nil => rfl
  | cons h hs => rw [runInputs_cons, runInputs_cons, after_emit]

theorem pulsesOf_emit (o : Output) (hs : List HostInput) (s : State) : pulsesOf hs (s.emit o) = pulsesOf hs s := by
  cases hs with
  | nil => rfl
  | cons h hs => simp only [pulsesOf, after_emit]

/-- A sample pulse carries `OUT` after every input, whatever the state before it (10_state.md R39). -/
theorem after_samplePulseIsOut (h : HostInput) (s : State) : (s.after h).SamplePulseIsOut := by
  cases h with
  | reset => exact nofun
  | command w =>
    have heffect := after_effect w s
    generalize s.after (.command w) = t at heffect
    cases heffect with
    | step => exact fun _ hx => (Output.smp.inj hx).symm
    | illegal _ ho => exact ho
    | _ => exact nofun

/-! ### Reset (70_reset_and_hazards.md R400 to R402) -/

/-- Settles O10. -/
theorem resetReplacesTheState : Obligations.ResetReplacesTheState := by
  intro s rest hin
  rw [step_reset hin, takeInput_cons hin]
  rfl

/-- An edge at which the command level sees an input is that input. -/
theorem tick_core_of_taken {p : PortState} {i : PortsIn} {h : HostInput} (hi : takenInput p i = some h) :
    (tick i p).core = p.core.after h :=
  tick_core_of_next (hi ▸ acceptInput_eq_after h p.core)

/-- Any other edge ends the pulse (70_reset_and_hazards.md R414). -/
theorem tick_core_of_not_taken {p : PortState} {i : PortsIn} (hi : takenInput p i = none) :
    (tick i p).core = p.core.emit .none :=
  tick_core_of_next (by rw [hi]; rfl)

/-! ### What is out in a cycle (10_state.md R39) -/

theorem portsOut_rspValid_iff (p : PortState) (i : PortsIn) :
    (portsOut p i).rspValid = true ↔ ∃ d, p.core.pulse = .rsp d := by
  unfold portsOut
  cases p.core.pulse <;> simp

theorem portsOut_smpValid_iff (p : PortState) (i : PortsIn) :
    (portsOut p i).smpValid = true ↔ ∃ o, p.core.pulse = .smp o := by
  unfold portsOut
  cases p.core.pulse <;> simp

/-- Settles O56: the two pulses are two values of one field. -/
theorem portsShowOneKindOfPulse : Obligations.PortsShowOneKindOfPulse := by
  intro p i
  refine ⟨?_, portsOut_smpData p i, portsOut_err p i⟩
  rw [portsOut_rspValid_iff, portsOut_smpValid_iff]
  rintro ⟨⟨d, hrsp⟩, ⟨o, hsmp⟩⟩
  cases hrsp.symm.trans hsmp

/-- Without a pulse due, none is out. -/
theorem portsOut_valid_of_pulse_none {p : PortState} (hpulse : p.core.pulse = .none) (i : PortsIn) :
    (portsOut p i).rspValid = false ∧ (portsOut p i).smpValid = false := by
  rw [← Bool.not_eq_true, ← Bool.not_eq_true, portsOut_rspValid_iff, portsOut_smpValid_iff]
  simp [hpulse]

/-- Settles O55: the record is that after a reset, and nothing is in progress. -/
theorem resetEdge : Obligations.ResetEdge := by
  intro p i j hrst
  have hcore : (tick i p).core = p.core.afterReset := tick_core_of_taken (takenInput_rst hrst)
  have hbusy : (tick i p).busy = none := busyAfter_rst hrst
  obtain ⟨hrsp, hsmp⟩ := portsOut_valid_of_pulse_none (p := tick i p) (by rw [hcore, State.afterReset_pulse]) j
  refine ⟨?_, completedWord_rst hrst, hcore, hbusy, hrsp, hsmp, ?_, ?_, fun hj => ?_⟩
  · rw [portsOut_cmdReady, hrst]; rfl
  · rw [portsOut_smpData, hcore, State.afterReset_out]
  · rw [portsOut_err, hcore, State.afterReset_err]
  · rw [portsOut_cmdReady, hbusy, hj]; rfl

/-! ### The clocked block refines the command level (70_reset_and_hazards.md R402, R414, R420) -/

/-- The pulse of one cycle as a list of outputs. -/
def Output.toList : Output → List Output
  | .none => []
  | o => [o]

theorem pulsesOf_cons (h : HostInput) (hs : List HostInput) (s : State) :
    pulsesOf (h :: hs) s = (s.after h).pulse.toList ++ pulsesOf hs (s.after h) := by
  rw [pulsesOf]
  cases (s.after h).pulse <;> rfl

/-- The host captures the pulse due, as a sample pulse carries `OUT`. -/
theorem portsOut_captured_eq {p : PortState} (hp : p.core.SamplePulseIsOut) (i : PortsIn) :
    (portsOut p i).captured = p.core.pulse.toList := by
  rcases portsOut_captured p i with ⟨hpulse, hcap⟩ | ⟨d, hpulse, hcap⟩ | ⟨o, hpulse, hcap⟩ <;> rw [hcap, hpulse]
  · rfl
  · rfl
  · rw [← hp o hpulse]; rfl

/-- An edge is the input the command level sees there, or it ends the pulse and is nothing to that level. -/
theorem tick_cases (i : PortsIn) (p : PortState) :
    (∃ h, takenInput p i = some h ∧ (tick i p).core = p.core.after h) ∨
    (takenInput p i = none ∧ (tick i p).core = p.core.emit .none) := by
  cases hi : takenInput p i with
  | some h => exact .inl ⟨h, rfl, tick_core_of_taken hi⟩
  | none => exact .inr ⟨rfl, tick_core_of_not_taken hi⟩

section
variable {p : PortState} {i : PortsIn}

theorem takenInputs_cons_of_taken {h : HostInput} (hi : takenInput p i = some h) (is : List PortsIn) :
    takenInputs (i :: is) p = h :: takenInputs is (tick i p) := by
  rw [takenInputs, hi]; rfl

theorem takenInputs_cons_of_not_taken (hi : takenInput p i = none) (is : List PortsIn) :
    takenInputs (i :: is) p = takenInputs is (tick i p) := by
  rw [takenInputs, hi]; rfl

end

theorem tick_samplePulseIsOut (i : PortsIn) (p : PortState) : (tick i p).core.SamplePulseIsOut := by
  rcases tick_cases i p with ⟨h, -, hcore⟩ | ⟨-, hcore⟩ <;> rw [hcore]
  · exact after_samplePulseIsOut h p.core
  · exact nofun

/-- The record of the clocked block is that of the inputs taken, but for the pulse, which an idle edge ends. -/
theorem runPorts_core (is : List PortsIn) (p : PortState) :
    (runPorts is p).core = (runInputs (takenInputs is p) p.core).emit (runPorts is p).core.pulse := by
  induction is generalizing p with
  | nil => rfl
  | cons i is ih =>
    refine (ih (tick i p)).trans ?_
    rcases tick_cases i p with ⟨h, hi, hcore⟩ | ⟨hi, hcore⟩
    · rw [takenInputs_cons_of_taken hi, runInputs_cons, hcore]; rfl
    · rw [takenInputs_cons_of_not_taken hi, hcore, runInputs_emit]; rfl

/-- The pulses captured, one edge beyond a run, are the one due at its start and those of the inputs taken. -/
theorem portPulses_append_edge (is : List PortsIn) (i : PortsIn) {p : PortState} (hp : p.core.SamplePulseIsOut) :
    portPulses (is ++ [i]) p = p.core.pulse.toList ++ pulsesOf (takenInputs is p) p.core := by
  induction is generalizing p with
  | nil => simp [portPulses, takenInputs, pulsesOf, portsOut_captured_eq hp]
  | cons j is ih =>
    rw [List.cons_append, portPulses, portsOut_captured_eq hp, ih (tick_samplePulseIsOut j p)]
    congr 1
    rcases tick_cases j p with ⟨h, hj, hcore⟩ | ⟨hj, hcore⟩
    · rw [takenInputs_cons_of_taken hj, pulsesOf_cons, hcore]
    · rw [takenInputs_cons_of_not_taken hj, hcore, pulsesOf_emit]; rfl

/-- Settles O57. -/
theorem portsRefineTheCommandLevel : Obligations.PortsRefineTheCommandLevel :=
  fun is i p hp => ⟨runPorts_core is p, portPulses_append_edge is i hp⟩

/-! ### An accepted command completes in time (70_reset_and_hazards.md R415, R420, R422) -/

theorem latency_le (w : CmdWord) : latency w ≤ Config.latCmdMax :=
  Nat.le_of_lt_succ (Nat.mod_lt _ (Nat.succ_pos _))

section
variable {p : PortState} {i : PortsIn} {w : CmdWord} {n : Nat}

/-- The command in progress completes at its last edge. -/
theorem takenInput_of_last (hrst : i.rst = false) (hbusy : p.busy = some (n, w)) (hn : n ≤ 1) :
    takenInput p i = some (.command w) := by
  simp [takenInput, completedWord, hrst, hbusy, hn]

/-- Before its last edge the command in progress comes one edge nearer to it. -/
theorem takenInput_busyAfter_of_waiting (hrst : i.rst = false) (hbusy : p.busy = some (n, w)) (hn : 1 < n) :
    takenInput p i = none ∧ busyAfter p i = some (n - 1, w) := by
  simp [takenInput, completedWord, busyAfter, hrst, hbusy, Nat.not_le.mpr hn]

/-- A command without latency completes at the edge that accepts it. -/
theorem takenInput_of_accepted (hacc : acceptedWord p i = some w) (hlat : latency w = 0) :
    takenInput p i = some (.command w) := by
  obtain ⟨-, hrst, hbusy, -⟩ := (acceptanceNeedsReadyAndValid p i w).mp hacc
  simp [takenInput, completedWord, hrst, hbusy, hacc, Option.filter, hlat]

/-- Any other accepted command is in progress after that edge, for as many edges as its latency. -/
theorem takenInput_busyAfter_of_accepted (hacc : acceptedWord p i = some w) (hlat : latency w ≠ 0) :
    takenInput p i = none ∧ busyAfter p i = some (latency w, w) := by
  obtain ⟨-, hrst, hbusy, -⟩ := (acceptanceNeedsReadyAndValid p i w).mp hacc
  simp [takenInput, completedWord, busyAfter, hrst, hbusy, hacc, Option.filter, hlat]

end

/-- The command in progress is the next thing the command level sees, once the edges it still needs have come without
reset. -/
theorem takenInputs_of_busy {is : List PortsIn} {p : PortState} {n : Nat} {w : CmdWord}
    (hbusy : p.busy = some (n, w)) (hrst : ∀ j ∈ is, j.rst = false) (hpos : 0 < n) (hlen : n ≤ is.length) :
    ∃ rest, takenInputs is p = .command w :: rest := by
  induction is generalizing p n with
  | nil => exact absurd hlen (Nat.not_le.mpr hpos)
  | cons j is ih =>
    obtain ⟨hj, his⟩ := List.forall_mem_cons.mp hrst
    by_cases hn : n ≤ 1
    · exact ⟨_, takenInputs_cons_of_taken (takenInput_of_last hj hbusy hn) is⟩
    · obtain ⟨htaken, hafter⟩ := takenInput_busyAfter_of_waiting hj hbusy (Nat.not_le.mp hn)
      rw [List.length_cons] at hlen
      rw [takenInputs_cons_of_not_taken htaken]
      exact ih (p := tick j p) hafter his (by omega) (by omega)

/-- Settles O58: the command completes as it is accepted, or is in progress for at most `LAT_CMD_MAX` edges. -/
theorem acceptedCommandCompletesInTime : Obligations.AcceptedCommandCompletesInTime := by
  intro p i is w hacc hrst hlen
  by_cases hlat : latency w = 0
  · exact ⟨_, takenInputs_cons_of_taken (takenInput_of_accepted hacc hlat) is⟩
  · obtain ⟨htaken, hafter⟩ := takenInput_busyAfter_of_accepted hacc hlat
    rw [takenInputs_cons_of_not_taken htaken]
    exact takenInputs_of_busy (p := tick i p) hafter hrst (Nat.pos_of_ne_zero hlat) ((latency_le w).trans hlen)

end Sys2Proof.Machine
